-- ==== Sys2Proof/Word.lean ====
section
/-! DEFINITION. The word every register, slot and sample of the CORE holds (10_state R39, 20_memory R82). -/

namespace Sys2Proof

/-- One 32-bit word: a port register, a command word, or the bit pattern of an IEEE binary32 (R12, R82). -/
abbrev Word := BitVec 32

/-- One byte of the little-endian byte view of a register (R82). -/
abbrev Byte := BitVec 8

end Sys2Proof
end

