-- ==== Sys2Proof/Syntax.lean ====
section
/-! DEFINITION. The commands of the CORE: one constructor per row of spec/opcode_table.json (30_encoding R117). -/

namespace Sys2Proof

/-- A command with its operands assembled (R112 to R114). The 32-bit operand of INIT and UPDATE_CONTROLS is the DATA
register (R111), which is state, not syntax. -/
inductive Instr where
  /-- NOP (R151) -/
  | nop
  /-- INIT (R152): sample rate in DATA -/
  | init
  /-- PROCESS (R155) -/
  | process
  /-- UPDATE_CONTROLS (R184): `delta = sext(IDX)` (R113), `mute` is M = 1 (R114), knob in DATA -/
  | updateControls (delta : Int) (mute : Bool)
  /-- RANDOMIZE (R197) -/
  | randomize
  /-- RESET (R200) -/
  | reset
  /-- IS_MUTED (R201) -/
  | isMuted
  /-- GET_CURRENT_PARAM_INDEX (R202) -/
  | getCurrentParamIndex
  /-- GET_PARAM_NAME (R203): `index = zext(IDX)` (R112) -/
  | getParamName (index : Nat)
  /-- GET_PARAM_VALUE (R204): `index = zext(IDX)` (R112) -/
  | getParamValue (index : Nat)
  /-- IS_PARAM_LOCKED (R205) -/
  | isParamLocked
  deriving DecidableEq, Repr

end Sys2Proof
end

