-- ==== Sys2Proof/WellFormed.lean ====
section
/-! DEFINITION. Which commands a word can encode: operands within the IDX field (30_encoding R110, R112, R113). -/

namespace Sys2Proof

/-- R113: a delta that the int8 field IDX can hold. -/
def deltaFits (delta : Int) : Bool := decide (-128 ≤ delta ∧ delta ≤ 127)

/-- R112: an index that the unsigned 8-bit field IDX can hold. -/
def indexFits (index : Nat) : Bool := decide (index ≤ 255)

/-- The operands fit the command word. A term whose operands do not fit cannot arrive (log 11). -/
def Instr.wellFormed : Instr → Bool
  | .nop => true
  | .init => true
  | .process => true
  | .updateControls delta _ => deltaFits delta
  | .randomize => true
  | .reset => true
  | .isMuted => true
  | .getCurrentParamIndex => true
  | .getParamName index => indexFits index
  | .getParamValue index => indexFits index
  | .isParamLocked => true

end Sys2Proof
end

