-- ==== Sys2Proof/Decode.lean ====
section
/-! DEFINITION. The command word decoder and encoder, written from the opcode map (30_encoding R110 to R121). -/

namespace Sys2Proof

/-- Why a word is no command (R119). -/
inductive IllegalWord where
  /-- OP is 0xB to 0xF. -/
  | reservedOpcode
  /-- OP is 0x0 to 0xA and a reserved field, or an operand field the opcode does not take, is not zero. -/
  | fieldNotZero
  deriving DecidableEq, Repr

/-- OP, bits 31:28 (R110). -/
def opField (w : Word) : BitVec 4 := w.extractLsb' 28 4

/-- IDX, bits 23:16 (R110). -/
def idxField (w : Word) : BitVec 8 := w.extractLsb' 16 8

/-- M, bit 0 (R110, R114). -/
def muteField (w : Word) : Bool := w.getLsbD 0

/-- One row of the opcode map (R117); `build` assembles the operands (R112 to R114). -/
structure OpcodeRow where
  mask : Word
  pattern : Word
  build : Word → Instr

/-- The opcode map of R117, in its order. -/
def opcodeMap : List OpcodeRow :=
  [ ⟨0xFFFFFFFF#32, 0x00000000#32, fun _ => .nop⟩,
    ⟨0xFFFFFFFF#32, 0x10000000#32, fun _ => .init⟩,
    ⟨0xFFFFFFFF#32, 0x20000000#32, fun _ => .process⟩,
    ⟨0xFF00FFFE#32, 0x30000000#32, fun w => .updateControls (idxField w).toInt (muteField w)⟩,
    ⟨0xFFFFFFFF#32, 0x40000000#32, fun _ => .randomize⟩,
    ⟨0xFFFFFFFF#32, 0x50000000#32, fun _ => .reset⟩,
    ⟨0xFFFFFFFF#32, 0x60000000#32, fun _ => .isMuted⟩,
    ⟨0xFFFFFFFF#32, 0x70000000#32, fun _ => .getCurrentParamIndex⟩,
    ⟨0xFF00FFFF#32, 0x80000000#32, fun w => .getParamName (idxField w).toNat⟩,
    ⟨0xFF00FFFF#32, 0x90000000#32, fun w => .getParamValue (idxField w).toNat⟩,
    ⟨0xFFFFFFFF#32, 0xA0000000#32, fun _ => .isParamLocked⟩ ]

/-- R118: `w` is the row's command exactly when it equals the pattern under the mask. -/
def OpcodeRow.accepts (r : OpcodeRow) (w : Word) : Bool := w &&& r.mask == r.pattern

/-- R118 to R120: every 32-bit word is one command of the map or is illegal, by name. -/
def decode (w : Word) : Except IllegalWord Instr :=
  match opcodeMap.find? (fun r => r.accepts w) with
  | some r => .ok (r.build w)
  | none => .error (if (opField w).toNat < 11 then .fieldNotZero else .reservedOpcode)

/-- The mask of a command's row (R117). -/
def Instr.mask : Instr → Word
  | .nop => 0xFFFFFFFF#32
  | .init => 0xFFFFFFFF#32
  | .process => 0xFFFFFFFF#32
  | .updateControls _ _ => 0xFF00FFFE#32
  | .randomize => 0xFFFFFFFF#32
  | .reset => 0xFFFFFFFF#32
  | .isMuted => 0xFFFFFFFF#32
  | .getCurrentParamIndex => 0xFFFFFFFF#32
  | .getParamName _ => 0xFF00FFFF#32
  | .getParamValue _ => 0xFF00FFFF#32
  | .isParamLocked => 0xFFFFFFFF#32

/-- The match word of a command's row (R117). -/
def Instr.pattern : Instr → Word
  | .nop => 0x00000000#32
  | .init => 0x10000000#32
  | .process => 0x20000000#32
  | .updateControls _ _ => 0x30000000#32
  | .randomize => 0x40000000#32
  | .reset => 0x50000000#32
  | .isMuted => 0x60000000#32
  | .getCurrentParamIndex => 0x70000000#32
  | .getParamName _ => 0x80000000#32
  | .getParamValue _ => 0x90000000#32
  | .isParamLocked => 0xA0000000#32

/-- The operand bits of a command's word, in the places of R110 (R112 to R114, R122). -/
def Instr.operandBits : Instr → Word
  | .nop => 0#32
  | .init => 0#32
  | .process => 0#32
  | .updateControls delta mute =>
      ((BitVec.ofInt 8 delta).setWidth 32 <<< 16) ||| (if mute then 1#32 else 0#32)
  | .randomize => 0#32
  | .reset => 0#32
  | .isMuted => 0#32
  | .getCurrentParamIndex => 0#32
  | .getParamName index => (BitVec.ofNat 8 index).setWidth 32 <<< 16
  | .getParamValue index => (BitVec.ofNat 8 index).setWidth 32 <<< 16
  | .isParamLocked => 0#32

/-- The command word of a command (R117, R122). -/
def encode (i : Instr) : Word := i.pattern ||| i.operandBits

/-- What the decoder reads from an instruction whose bits are `w`, the bits above `nbits` being zero. A command is
exactly one 32-bit word (R121), so the word needs no laying out in bytes. -/
def decodeTableWord (nbits w : Nat) : Option Instr :=
  (decode (BitVec.ofNat 32 (w % 2 ^ nbits))).toOption

end Sys2Proof
end

