-- ==== Sys2Proof/Machine/State.lean ====
section
/-! DEFINITION. The state of the CORE as plain data (10_state R30 to R52), the host accesses that reach it
(20_memory R81, R83), and the reasons a step can stop. -/

namespace Sys2Proof.Machine

/-! ## Channels and delay-line memory -/

/-- The two channels (R8): index 0 is L, index 1 is R. -/
inductive Chan where
  | left
  | right
  deriving DecidableEq, Repr

/-- The buffer of a delay line: (index, sample) cells, indexes strictly rising, no sample +0.0, an unlisted index
reading +0.0 (log 12). The smallest unit of delay-line memory is the whole 32-bit sample (20_memory R83). -/
abbrev Memory := List (Nat × Word)

/-- What an unlisted sample reads as: +0.0, what INIT puts in every sample (40_system R152). -/
def Memory.blank : Word := 0#32

/-- The canonical form: indexes strictly rising and no listed sample equal to the blank. -/
def Memory.wf : Memory → Bool
  | [] => true
  | [c] => c.2 != Memory.blank
  | c :: d :: rest => c.2 != Memory.blank && decide (c.1 < d.1) && Memory.wf (d :: rest)

/-- A delay line (R47, R48, 45_reverb section 1): the buffer, the write index and the delay length. -/
structure DelayLine where
  buf : Memory
  wp : Nat
  len : Nat
  deriving DecidableEq, Repr

/-- The per-channel state of the datapath. -/
structure ChannelState where
  /-- `ph_A[c]` (R42) -/
  phA : Word
  /-- `ph_B[c]` (R42) -/
  phB : Word
  /-- `phs[c]` (R44), of PHASER's state type (log 5) -/
  phs : List Word
  /-- `svf[c]` (R45), of SVF's state type (log 5) -/
  svf : List Word
  /-- `dmp[c]` (R46) -/
  dmp : Word
  /-- `comb[c][0..7]` (R47) -/
  comb : Vector DelayLine 8
  /-- `cds[c][0..7]` (R47) -/
  cds : Vector Word 8
  /-- `ap[c][0..3]` (R48) -/
  ap : Vector DelayLine 4
  deriving DecidableEq, Repr

/-! ## The host's accesses -/

/-- One access of the host to the register block, by byte offset from BASE (R80, R81) and size in bytes (R83). -/
inductive HostAccess where
  | read (offset size : Nat)
  | write (offset size : Nat) (value : Word)
  deriving DecidableEq, Repr

/-- The reasons of the CORE's one fault mechanism (60_exceptions R402). A fault is a NEXT state, not a stop; the reason
is recorded nowhere the host can read. -/
inductive FaultReason where
  | illegalCommand
  | notInitialized
  | badSampleRate
  | writeToReadonlyOrReserved
  deriving DecidableEq, Repr

/-! ## The state -/

/-- The state of the CORE, and at its end three fields of the model's own. -/
structure State where
  /-- DATA (R39) -/
  data : Word
  /-- RESULT (R39) -/
  result : Word
  /-- OUT_L (R39) -/
  outL : Word
  /-- OUT_R (R39) -/
  outR : Word
  /-- STATUS.INIT_DONE (R40) -/
  initDone : Bool
  /-- STATUS.ERR (R40) -/
  err : Bool
  /-- FS (R41) -/
  fs : Word
  /-- DAMP_A (R41) -/
  dampA : Word
  /-- P[0..13] (R31) -/
  params : Vector Word 14
  /-- current_param (R34) -/
  currentParam : Fin 14
  /-- locked (R35) -/
  locked : Bool
  /-- lock_reference (R36) -/
  lockReference : Word
  /-- muted (R37) -/
  muted : Bool
  /-- ph_wob (R43) -/
  phWob : Word
  /-- ph_swp (R43) -/
  phSwp : Word
  /-- ph_rev (R49) -/
  phRev : Word
  /-- the state of channel L -/
  left : ChannelState
  /-- the state of channel R -/
  right : ChannelState
  /-- The model's own: the host accesses not yet arrived, first to arrive first (log 2). -/
  hostBus : List HostAccess
  /-- The model's own: what the last host read returned (log 3). -/
  readData : Option Word
  /-- The model's own: the number of DRAW answers used (log 6). -/
  drawCount : Nat
  deriving DecidableEq, Repr

/-- A delay line at power-up: R52 says unspecified; the model's value is zero (DESIGN CHOICE, unsafe, log 1). -/
def DelayLine.powerUp : DelayLine := { buf := [], wp := 0, len := 0 }

/-- A channel at power-up: R52 says unspecified; the model's value is zero (DESIGN CHOICE, unsafe, log 1). -/
def ChannelState.powerUp : ChannelState :=
  { phA := 0#32, phB := 0#32, phs := [], svf := [], dmp := 0#32,
    comb := Vector.replicate 8 DelayLine.powerUp,
    cds := Vector.replicate 8 0#32,
    ap := Vector.replicate 4 DelayLine.powerUp }

/-- Power-up (10_state R52, 70_reset_and_hazards R430): the port registers and STATUS are 0 as the spec says; every
element the spec leaves unspecified is zero (DESIGN CHOICE, unsafe, log 1). -/
def State.reset : State :=
  { data := 0#32, result := 0#32, outL := 0#32, outR := 0#32, initDone := false, err := false,
    fs := 0#32, dampA := 0#32, params := Vector.replicate 14 0#32, currentParam := 0, locked := false,
    lockReference := 0#32, muted := false, phWob := 0#32, phSwp := 0#32, phRev := 0#32,
    left := ChannelState.powerUp, right := ChannelState.powerUp,
    hostBus := [], readData := none, drawCount := 0 }

/-! ## Why a step stops -/

/-- The model's faults. The CORE's own faults (FaultReason) are next states, not these. -/
inductive Fault where
  /-- Raised by a host access at an offset of 256 or more, which is outside the register block's window (R80): such an
  address is not the CORE's (DESIGN CHOICE, log 13). Safe: nothing is claimed of such an access. -/
  | outsideRegisterBlock
  deriving DecidableEq, Repr

/-- The model's refusals. -/
inductive Refusal where
  /-- Raised by `exec` for a command with no meaning yet. Safe. No command of this model raises it. -/
  | notModelled (mnemonic : String)
  /-- Raised by a host access that is not an aligned 32-bit word: "a model refuses it (the host is stuck; no state
  changes and no value is returned)" (R83, I7). Safe: the spec gives the access no meaning. -/
  | accessNotAlignedWord
  deriving DecidableEq, Repr

end Sys2Proof.Machine
end

