-- ==== Sys2Proof/Machine/Ops.lean ====
section
/-! DEFINITION. The shared operations over the state: raising a fault, delay-line memory and channel access. -/

namespace Sys2Proof.Machine

/-! ## Faults (60_exceptions R402) -/

/-- R402: `raise Fault(reason)` sets STATUS.ERR and changes nothing else. The reason "names the cause for the reader
only": it is stored nowhere (log 18). There is no trap entry and no return (R408, R409). -/
def raiseFault (_reason : FaultReason) (s : State) : State := { s with err := true }

/-- R150 step 2, R403: a command other than NOP and INIT faults with NOT_INITIALIZED before the first valid INIT, and
otherwise executes its rule completely. -/
def whenInitialized (rule : State → State) (s : State) : Host.Outcome State Fault Refusal :=
  .next (if s.initDone then rule s else raiseFault .notInitialized s)

/-! ## Delay-line buffers -/

/-- The sample at index `i`; +0.0 where none is listed. -/
def bufRead : Memory → Nat → Word
  | [], _ => Memory.blank
  | c :: rest, i => if c.1 = i then c.2 else bufRead rest i

/-- Stores `v` at index `i` and keeps the canonical form: storing the blank removes the cell. -/
def bufWrite (i : Nat) (v : Word) : Memory → Memory
  | [] => if v = Memory.blank then [] else [(i, v)]
  | c :: rest =>
    if i < c.1 then (if v = Memory.blank then c :: rest else (i, v) :: c :: rest)
    else if i = c.1 then (if v = Memory.blank then rest else (i, v) :: rest)
    else c :: bufWrite i v rest

/-! ## Delay-line primitives (45_reverb R341 to R343), `cap` the capacity N of the line -/

/-- The read tap: `(wp - len) mod N`, the mathematical modulo. -/
def readTap (cap : Nat) (line : DelayLine) : Nat := (((line.wp : Int) - (line.len : Int)) % (cap : Int)).toNat

/-- R341: `MemRead(line, 1)`. -/
def memRead (cap : Nat) (line : DelayLine) : Word := bufRead line.buf (readTap cap line)

/-- R342: `MemWrite(line, 1, v)`: store at the write index, then advance it modulo N. -/
def memWrite (cap : Nat) (v : Word) (line : DelayLine) : DelayLine :=
  { line with buf := bufWrite line.wp v line.buf, wp := (line.wp + 1) % cap }

/-- R343: `SetLength(line, d)`. -/
def setLength (d : Nat) (line : DelayLine) : DelayLine := { line with len := d }

/-- A delay line as INIT leaves it (40_system R152): every sample +0.0, write index 0, the given length. -/
def freshLine (len : Nat) : DelayLine := { buf := [], wp := 0, len := len }

/-! ## Channels -/

/-- The state of channel `c`. -/
def channel (s : State) (c : Chan) : ChannelState :=
  match c with
  | .left => s.left
  | .right => s.right

/-! ## Words -/

/-- R82: the byte at offset `4k + n` of a register, little-endian: byte 0 is bits 7:0. -/
def byteOf (w : Word) (n : Fin 4) : Byte := w.extractLsb' (8 * n.val) 8

end Sys2Proof.Machine
end

