-- ==== Sys2Proof/Machine/Flags.lean ====
section
/-! DEFINITION. The flags of the CORE (10_state R35, R37, R38, R40): STATUS as a word, and the updates of `locked` and
`muted`. No datapath operation sets a flag (R38). -/

namespace Sys2Proof.Machine

/-- R116: a boolean result as a word. -/
def boolWord (b : Bool) : Word := if b then 1#32 else 0#32

/-- R40: STATUS as the host reads it: bit 0 INIT_DONE, bit 1 ERR, bits 31:2 hardwired 0. -/
def statusWord (s : State) : Word := boolWord s.initDone ||| (boolWord s.err <<< 1)

/-- 41_parameter_controller R186: a selection locks, whatever the lock was, and captures the knob value. -/
def lockAt (knob : Word) (s : State) : State := { s with locked := true, lockReference := knob }

/-- R189, R200: back to UNLOCKED. -/
def unlock (s : State) : State := { s with locked := false }

/-- R188: `muted <- 1 - muted`. -/
def toggleMute (s : State) : State := { s with muted := !s.muted }

/-- R200: RESET clears mute. -/
def unmute (s : State) : State := { s with muted := false }

end Sys2Proof.Machine
end

