-- ==== Sys2Proof/Config.lean ====
section
/-! DEFINITION. What an implementation fixes and the spec leaves open: the structural sizes (00_scope R8), the
parameters of R9 as opaque constants, and the free values. No proof can see an opaque constant, so what is proved
holds for every value of it. -/

namespace Sys2Proof

/-- The two output taps of the state-variable filter (44_effects_chain R304). -/
inductive SvfMode where
  | lp
  | hp
  deriving DecidableEq, Repr

/-- The binary32 operations whose result can be a NaN (93_implementation_defined I14). -/
inductive FloatOp where
  | add | sub | mul | div | floor | round | fmod | min | max
  deriving DecidableEq, Repr

/-- The parameters of the model (00_scope R9), one field each: NUMERICS (R16), DRIVE_SHAPER (R293), PHASER (R296),
SVF (R304), COMB_TUNING, AP_TUNING and PARAM_DEFAULTS. FS is an operand of INIT and DRAW is `Config.draw`.
The state of PHASER and of SVF is a list of words (DESIGN CHOICE, safe, log 5). -/
structure Params where
  sin : Word → Word
  exp : Word → Word
  exp2 : Word → Word
  pow : Word → Word → Word
  log10 : Word → Word
  tan : Word → Word
  /-- `driveShaper k x` -/
  driveShaper : Word → Word → Word
  phaserInit : List Word
  /-- `phaserStep fs st x depth rate` is the output sample and the next state. -/
  phaserStep : Word → List Word → Word → Word → Word → Word × List Word
  svfInit : List Word
  /-- `svfStep fs st x fc res mode` is the output sample and the next state. -/
  svfStep : Word → List Word → Word → Word → Word → SvfMode → Word × List Word
  combTuning : Fin 8 → Nat
  apTuning : Fin 4 → Nat
  paramDefault : Fin 14 → Word

namespace Config

/-! The structural sizes of R8. -/

/-- COMB_CAP: samples per comb buffer. -/
def combCap : Nat := 1750

/-- AP_CAP: samples per all-pass buffer. -/
def apCap : Nat := 600

/-- COMB_LEN_MIN. -/
def combLenMin : Nat := 10

/-- COMB_LEN_MAX. -/
def combLenMax : Nat := 1740

/-- SPREAD: samples added to every right-channel tuning. -/
def spread : Nat := 23

/-! The open parameters of R9. -/

/-- NUMERICS.SIN (R16). -/
opaque sin : Word → Word

/-- NUMERICS.EXP (R16). -/
opaque exp : Word → Word

/-- NUMERICS.EXP2 (R16). -/
opaque exp2 : Word → Word

/-- NUMERICS.POW (R16), base first. -/
opaque pow : Word → Word → Word

/-- NUMERICS.LOG10 (R16). -/
opaque log10 : Word → Word

/-- NUMERICS.TAN (R16). -/
opaque tan : Word → Word

/-- DRIVE_SHAPER (R293), coefficient first. -/
opaque driveShaper : Word → Word → Word

/-- PHASER.init (R296). -/
opaque phaserInit : List Word

/-- PHASER.step (R296). -/
opaque phaserStep : Word → List Word → Word → Word → Word → Word × List Word

/-- SVF.init (R304). -/
opaque svfInit : List Word

/-- SVF.step (R304). -/
opaque svfStep : Word → List Word → Word → Word → Word → SvfMode → Word × List Word

/-- COMB_TUNING less 1: any eight integers that make the tunings lie in [1, 1740] (R9). -/
opaque combTuningLess1 : Fin 8 → Fin 1740

/-- AP_TUNING less 1: any four integers that make the tunings lie in [1, 576] (R9). -/
opaque apTuningLess1 : Fin 4 → Fin 576

/-- PARAM_DEFAULTS before its range is imposed (R9, D16). -/
opaque paramDefault : Fin 14 → Word

/-- BASE, the platform's address of the register block (20_memory R81). -/
opaque base : Nat

/-! Free values. -/

/-- The DRAW oracle (R9, 41_parameter_controller R198) before its range is imposed: the word of each draw. -/
opaque draw : Nat → Word

/-- The NaN an operation on the given operands produces (I14), before it is made a NaN encoding. -/
opaque freeNaN : FloatOp → Word → Word → Word

/-- `toInt` of a word outside the domain R17 gives it, as an int32 bit pattern. -/
opaque freeInt : Word → BitVec 32

/-- The default NUMERICS where the exact real function has no value (R16): function number, operands. -/
opaque freeNumeric : Nat → Word → Word → Word

end Config
end Sys2Proof
end

