-- ==== Sys2Proof/Machine/Float.lean ====
section
/-! DEFINITION. IEEE 754 binary32 arithmetic on bit patterns (00_scope R12 to R15, R17): each operand becomes an exact
integer multiple of 2^-149, the result is computed exactly, and one rounding narrows it to binary32. -/

namespace Sys2Proof.F32

/-! ## Fields and classes (R82) -/

/-- The bits below the sign. -/
def magBits (x : Word) : Nat := x.toNat % 2 ^ 31

/-- The sign bit. -/
def sign (x : Word) : Bool := decide (2 ^ 31 ≤ x.toNat)

def isNaN (x : Word) : Bool := decide (0x7F800000 < magBits x)

def isInf (x : Word) : Bool := decide (magBits x = 0x7F800000)

def isFinite (x : Word) : Bool := decide (magBits x < 0x7F800000)

def isZero (x : Word) : Bool := decide (magBits x = 0)

/-- The magnitude of a finite binary32, in units of 2^-149: every finite binary32 is a multiple of that unit. -/
def mag (x : Word) : Nat :=
  let e := magBits x / 2 ^ 23
  let f := magBits x % 2 ^ 23
  if e = 0 then f else (2 ^ 23 + f) * 2 ^ (e - 1)

/-- The value of a finite binary32, in units of 2^-149. -/
def scaled (x : Word) : Int := if sign x then -(mag x : Int) else (mag x : Int)

/-- One, in units of 2^-149. -/
def unit : Nat := 2 ^ 149

/-! ## Rounding (R13) -/

/-- `n / d` rounded to the nearest integer, ties to even. -/
def nearestEven (n d : Nat) : Nat :=
  let q := n / d
  let r := n % d
  if 2 * r < d then q
  else if d < 2 * r then q + 1
  else if q % 2 = 0 then q else q + 1

/-- The magnitude bits of the binary32 nearest to `n / d` units of 2^-149, ties to even. The significand is kept to
24 bits by dropping `k` low bits (none below 2^24 units, so subnormals are kept); adding `k` exponents to the rounded
significand carries into the exponent by itself, and a result past the largest finite value is infinity. -/
def roundMag (n d : Nat) : Nat :=
  let k := Nat.log2 (n / d) - 23
  min (k * 2 ^ 23 + nearestEven n (d * 2 ^ k)) 0x7F800000

/-- The word with the given sign and magnitude bits. -/
def pack (neg : Bool) (m : Nat) : Word := BitVec.ofNat 32 (m + if neg then 2 ^ 31 else 0)

/-- The binary32 nearest to ±`n / d` units of 2^-149 (R13). -/
def round149 (neg : Bool) (n d : Nat) : Word := pack neg (roundMag n d)

/-- R14: the binary32 nearest to the decimal `n / d`. -/
def lit (n d : Nat) : Word := round149 false (n * unit) d

/-- R17: the binary32 value of an integer. -/
def toF (n : Int) : Word := round149 (decide (n < 0)) (n.natAbs * unit) 1

/-- R14: the binary32 nearest to pi. -/
def pi : Word := 0x40490FDB#32

/-- R14: `2 * PI`. -/
def twoPi : Word := 0x40C90FDB#32

def plusZero : Word := 0x00000000#32

def plusInf : Word := 0x7F800000#32

/-- I14: the NaN an operation produces is any NaN encoding (a free value, log 7). -/
def nan (op : FloatOp) (a b : Word) : Word :=
  let w := Config.freeNaN op a b
  if isNaN w then w else 0x7FC00000#32

/-! ## Exact operations on the representation (R15) -/

/-- Sign inversion, exact. -/
def neg (x : Word) : Word := x ^^^ 0x80000000#32

/-- R15: `fabs` clears the sign bit. -/
def fabs (x : Word) : Word := x &&& 0x7FFFFFFF#32

/-! ## The four operators (R13) -/

/-- The sum, or none where the operation is invalid or an operand is a NaN. -/
def sum? (a b : Word) : Option Word :=
  if isNaN a || isNaN b then none
  else if isInf a then (if isInf b && sign a != sign b then none else some a)
  else if isInf b then some b
  else
    let s := scaled a + scaled b
    some (if s = 0 then pack (sign a && sign b) 0 else round149 (decide (s < 0)) s.natAbs 1)

/-- R13: `a + b`. -/
def add (a b : Word) : Word := (sum? a b).getD (nan .add a b)

/-- R13: `a - b`. -/
def sub (a b : Word) : Word := (sum? a (neg b)).getD (nan .sub a b)

/-- R13: `a * b`. -/
def mul (a b : Word) : Word :=
  let s := sign a != sign b
  if isNaN a || isNaN b then nan .mul a b
  else if isInf a || isInf b then (if isZero a || isZero b then nan .mul a b else pack s 0x7F800000)
  else round149 s (mag a * mag b) unit

/-- R13: `a / b`. -/
def div (a b : Word) : Word :=
  let s := sign a != sign b
  if isNaN a || isNaN b then nan .div a b
  else if isInf a then (if isInf b then nan .div a b else pack s 0x7F800000)
  else if isInf b then pack s 0
  else if isZero b then (if isZero a then nan .div a b else pack s 0x7F800000)
  else round149 s (mag a * unit) (mag b)

/-! ## Comparisons (R15): false with a NaN operand -/

/-- An integer ordered as the non-NaN binary32 values are; both zeros give 0. -/
def key (x : Word) : Int := if sign x then -(magBits x : Int) else (magBits x : Int)

def lt (a b : Word) : Bool := !isNaN a && !isNaN b && decide (key a < key b)

def le (a b : Word) : Bool := !isNaN a && !isNaN b && decide (key a ≤ key b)

def gt (a b : Word) : Bool := lt b a

/-! ## Helper functions (R15) -/

/-- R15: the smaller operand; the other one if exactly one is a NaN; -0.0 before +0.0. -/
def min (a b : Word) : Word :=
  if isNaN a then (if isNaN b then nan .min a b else b)
  else if isNaN b then a
  else if key a < key b then a
  else if key b < key a then b
  else if sign a then a else b

/-- R15: the larger operand; the other one if exactly one is a NaN; +0.0 before -0.0. -/
def max (a b : Word) : Word :=
  if isNaN a then (if isNaN b then nan .max a b else b)
  else if isNaN b then a
  else if key a < key b then b
  else if key b < key a then a
  else if sign a then b else a

/-- R15: `clamp(x, lo, hi) = min(max(x, lo), hi)`. -/
def clamp (x lo hi : Word) : Word := min (max x lo) hi

/-- R15: the largest integral value not greater than `x`. An infinity is its own floor, a zero keeps its sign and a NaN
gives a NaN (PRESUMED the C library's, log 8). -/
def floor (x : Word) : Word :=
  if isNaN x then nan .floor x x
  else if isInf x || isZero x then x
  else toF (scaled x / (unit : Int))

/-- R15: the integral value nearest to `x`, halfway cases away from zero (I1). A zero result keeps the sign of `x`
(PRESUMED the C library's, log 8). -/
def round (x : Word) : Word :=
  if isNaN x then nan .round x x
  else if isInf x then x
  else round149 (sign x) ((2 * mag x + unit) / (2 * unit) * unit) 1

/-- R15: `frac(x) = x - floor(x)`, one rounding (log 17). -/
def frac (x : Word) : Word := sub x (floor x)

/-- R15: the exact remainder of the quotient truncated toward zero, with the sign of `x`; a NaN where the quotient has
no integer (PRESUMED the C library's, log 8). -/
def fmod (x y : Word) : Word :=
  if isNaN x || isNaN y || isInf x || isZero y then nan .fmod x y
  else if isInf y then x
  else round149 (sign x) (mag x % mag y) 1

/-- R17: an integral value of the int32 range, exactly; any int32 outside that domain (a free value, log 9). -/
def toInt (x : Word) : Int :=
  let n := scaled x / (unit : Int)
  if isFinite x && decide (n * (unit : Int) = scaled x) && decide (-2 ^ 31 ≤ n) && decide (n < 2 ^ 31) then n
  else (Config.freeInt x).toInt

/-- `v` where `lo <= v <= hi`, else `lo`: any value of the closed range, and only such values, if `lo <= hi`. -/
def within (lo hi v : Word) : Word := if le lo v && le v hi then v else lo

end Sys2Proof.F32
end

