-- ==== Sys2Proof/Machine/Numerics.lean ====
section
/-! DEFINITION. The default NUMERICS (00_scope R16, D5): SIN, EXP, EXP2, POW, LOG10 and TAN evaluated in fixed point with
512 fraction bits and rounded once to binary32. Where the exact real function has no value the result is free (but for
`0^0`, log 20).
UNVERIFIED, unsafe (log 10): that the evaluation is correctly rounded everywhere is not proved. -/

namespace Sys2Proof.Numerics

/-! ## Fixed point: a natural number or integer `v` stands for `v / 2^512` -/

/-- The number of fraction bits. -/
def fracBits : Nat := 512

/-- One. -/
def one : Nat := 2 ^ fracBits

/-- pi, rounded down. -/
def pi : Nat :=
  0x3243f6a8885a308d313198a2e03707344a4093822299f31d0082efa98ec4e6c89452821e638d01377be5466cf34e90c6cc0ac29b7c97c50dd3f84d5b5b5470917

/-- The natural logarithm of 2, rounded down. -/
def ln2 : Nat :=
  0xb17217f7d1cf79abc9e3b39803f2f6af40f343267298b62d8a0d175b8baafa2be7b876206debac98559552fb4afa1b10ed2eae35c138214427573b291169b825

/-- The magnitude of a finite binary32; exact, as 512 > 149. -/
def ofMag (x : Word) : Nat := F32.mag x * 2 ^ (fracBits - 149)

/-- `n` terms of the sine series from the term whose power is `k`. -/
def sinSeries : Nat → Nat → Nat → Nat → Int
  | 0, _, _, _ => 0
  | n + 1, k, term, square =>
    (term : Int) - sinSeries n (k + 2) (term * square / one / ((k + 1) * (k + 2))) square

/-- `n` terms of the exponential series from the term whose power is `k`. -/
def expSeries : Nat → Nat → Nat → Nat → Nat
  | 0, _, _, _ => 0
  | n + 1, k, term, x => term + expSeries n (k + 1) (term * x / one / (k + 1)) x

/-- `n` terms of the inverse hyperbolic tangent series from the term whose power is `k`. -/
def atanhSeries : Nat → Nat → Nat → Nat → Nat
  | 0, _, _, _ => 0
  | n + 1, k, power, square => power / k + atanhSeries n (k + 2) (power * square / one) square

/-- Sine of an angle in [0, pi/2]. -/
def sinQuarter (r : Nat) : Int := sinSeries 60 1 r (r * r / one)

/-- Sine of any angle. -/
def sinFix (x : Nat) : Int :=
  let r := x % (2 * pi)
  let h := r % pi
  let s := sinQuarter (if pi < 2 * h then pi - h else h)
  if pi ≤ r then -s else s

/-- Cosine of any angle. -/
def cosFix (x : Nat) : Int := sinFix (x + pi / 2)

/-- Natural logarithm of a positive finite binary32. -/
def lnFix (x : Word) : Int :=
  let m := F32.mag x
  let b := Nat.log2 m
  let z := (m - 2 ^ b) * one / (m + 2 ^ b)
  ((b : Int) - 149) * (ln2 : Int) + 2 * (atanhSeries 170 1 z (z * z / one) : Int)

/-- Drops the last 60 bits, to nearest: a result that is exact, or an exact tie, in few bits becomes so again. -/
def snap (v : Nat) : Nat := (v + 2 ^ 59) / 2 ^ 60 * 2 ^ 60

/-- The binary32 nearest to `e^r * 2^k`, for `r` in [0, ln 2). -/
def roundExp (neg : Bool) (k : Int) (r : Nat) : Word :=
  if 128 < k then F32.pack neg 0x7F800000
  else if k < -160 then F32.pack neg 0
  else F32.round149 neg (snap (expSeries 110 0 one r) * 2 ^ (k + 160).toNat) (2 ^ (fracBits + 11))

/-- The binary32 nearest to `e^y`. -/
def expFix (neg : Bool) (y : Int) : Word := roundExp neg (y / (ln2 : Int)) (y % (ln2 : Int)).toNat

/-- The binary32 nearest to a fixed-point number. -/
def roundFix (y : Int) : Word := F32.round149 (decide (y < 0)) y.natAbs (2 ^ (fracBits - 149))

/-- A fixed-point number of a finite binary32, with its sign. -/
def ofWord (x : Word) : Int := if F32.sign x then -(ofMag x : Int) else (ofMag x : Int)

/-! ## The six functions (R16)

The sign of a zero result whose exact real value is 0, and POW of a zero base and a zero exponent, are DESIGN CHOICE
(unsafe, log 20). -/

/-- SIN: odd, so the sign is applied last; a zero keeps its sign (DESIGN CHOICE, log 20). -/
def sin (x : Word) : Word :=
  if F32.isFinite x then
    let y := sinFix (ofMag x)
    F32.round149 (F32.sign x != decide (y < 0)) y.natAbs (2 ^ (fracBits - 149))
  else Config.freeNumeric 0 x x

/-- EXP. -/
def exp (x : Word) : Word :=
  if F32.isFinite x then expFix false (ofWord x) else Config.freeNumeric 1 x x

/-- EXP2. -/
def exp2 (x : Word) : Word :=
  if F32.isFinite x then
    roundExp false (ofWord x / (one : Int)) ((ofWord x % (one : Int)).toNat * ln2 / one)
  else Config.freeNumeric 2 x x

/-- POW: `b^x` for a positive base, for a negative base with an integral exponent, and for a zero base with a positive
exponent; `b^0 = 1`. A zero base with a positive exponent gives +0.0, also -0.0 with an odd integral one (DESIGN CHOICE,
log 20). `0^0`, of either sign of each zero, which has no settled real value, is 1.0 (DESIGN CHOICE, log 20). -/
def pow (b x : Word) : Word :=
  let y := F32.scaled x
  let e := lnFix b * y / (F32.unit : Int)
  if !F32.isFinite b || !F32.isFinite x then Config.freeNumeric 3 b x
  else if F32.isZero x then F32.lit 1 1
  else if F32.isZero b then (if F32.sign x then Config.freeNumeric 3 b x else F32.plusZero)
  else if !F32.sign b then expFix false e
  else if y % (F32.unit : Int) = 0 then expFix (decide (y / (F32.unit : Int) % 2 = 1)) e
  else Config.freeNumeric 3 b x

/-- LOG10; of 1 it is +0.0 (DESIGN CHOICE, log 20). -/
def log10 (x : Word) : Word :=
  if F32.isFinite x && !F32.sign x && !F32.isZero x then
    let q := lnFix x * (one : Int) / lnFix (F32.lit 10 1)
    roundFix (if q < 0 then -(snap q.natAbs : Int) else (snap q.natAbs : Int))
  else Config.freeNumeric 4 x x

/-- TAN: odd, so the sign is applied last; a zero keeps its sign (DESIGN CHOICE, log 20). -/
def tan (x : Word) : Word :=
  if F32.isFinite x then
    let s := sinFix (ofMag x)
    let c := cosFix (ofMag x)
    F32.round149 (F32.sign x != (decide (s < 0) != decide (c < 0))) (s.natAbs * F32.unit) c.natAbs
  else Config.freeNumeric 5 x x

end Sys2Proof.Numerics
end

