-- ==== Sys2Proof/Machine/Params.lean ====
section
/-! DEFINITION. The two parameter records of the model (00_scope R9): `implementation`, every field of which is open,
is the one the commands run with; `defaultConfiguration` is the spec's own choice (R16, R293, R297, R305, D5, D16,
D21 to D23, D27, D28), on which no claim about the hardware may rest unless it says so. -/

namespace Sys2Proof.Machine

open Sys2Proof.F32

/-! ## Ranges of the parameters -/

/-- The lower end of a slot's reachable range (10_state R31). -/
def slotMin (i : Fin 14) : Word := if i = 0 then lit 55 1 else plusZero

/-- The upper end of a slot's reachable range (10_state R31). -/
def slotMax (i : Fin 14) : Word := if i = 0 then lit 5995 1 else lit 1 1

/-- What R9 and R32 say of the tunings and defaults: comb tunings in [1, 1740], all-pass tunings in [1, 576], each
default in its slot's range. -/
def paramsLegal (cfg : Params) : Prop :=
  (∀ i, 1 ≤ cfg.combTuning i ∧ cfg.combTuning i ≤ 1740) ∧
  (∀ j, 1 ≤ cfg.apTuning j ∧ cfg.apTuning j ≤ 576) ∧
  (∀ i, le (slotMin i) (cfg.paramDefault i) = true ∧ le (cfg.paramDefault i) (slotMax i) = true)

/-! ## The open parameters -/

/-- The implementation's parameters: opaque constants, the tunings and defaults kept in their ranges (log 4). -/
def implementation : Params :=
  { sin := Config.sin, exp := Config.exp, exp2 := Config.exp2, pow := Config.pow, log10 := Config.log10,
    tan := Config.tan, driveShaper := Config.driveShaper,
    phaserInit := Config.phaserInit, phaserStep := Config.phaserStep,
    svfInit := Config.svfInit, svfStep := Config.svfStep,
    combTuning := fun i => (Config.combTuningLess1 i).val + 1,
    apTuning := fun j => (Config.apTuningLess1 j).val + 1,
    paramDefault := fun i => within (slotMin i) (slotMax i) (Config.paramDefault i) }

/-! ## The default configuration -/

/-- R293: `t = x * (1 + 19k)`, `t / (1 + |t|)`. -/
def defaultDriveShaper (k x : Word) : Word :=
  let t := mul x (add (lit 1 1) (mul (lit 19 1) k))
  div t (add (lit 1 1) (fabs t))

/-- R297: one first-order all-pass section with coefficient `a`; the output and the next state. -/
def allPassSection (a z s : Word) : Word × Word :=
  let yn := sub z (mul a s)
  (yn, add s (mul a yn))

/-- R297: the default PHASER.step over a state of `phi` and `z[0..3]`. -/
def defaultPhaserStep (fs : Word) (st : List Word) (x depth rate : Word) : Word × List Word :=
  let phi := st.getD 0 plusZero
  let m := Numerics.sin (mul twoPi phi)
  let phi' := frac (add phi (div rate fs))
  let fc := mul (lit 1000 1) (add (lit 1 1) (mul (mul (lit 8 10) depth) m))
  let w := div (mul pi fc) fs
  let a := div (sub (lit 1 1) w) (add (lit 1 1) w)
  let s1 := allPassSection a (st.getD 1 plusZero) x
  let s2 := allPassSection a (st.getD 2 plusZero) s1.1
  let s3 := allPassSection a (st.getD 3 plusZero) s2.1
  let s4 := allPassSection a (st.getD 4 plusZero) s3.1
  (mul (lit 5 10) (add x s4.1), [phi', s1.2, s2.2, s3.2, s4.2])

/-- R305: the default SVF.step over a state of `ic1` and `ic2`. -/
def defaultSvfStep (fs : Word) (st : List Word) (x fc res : Word) (mode : SvfMode) : Word × List Word :=
  let ic1 := st.getD 0 plusZero
  let ic2 := st.getD 1 plusZero
  let fcl := F32.min fc (mul (lit 45 100) fs)
  let g := Numerics.tan (div (mul pi fcl) fs)
  let k := sub (lit 2 1) (mul (lit 2 1) res)
  let a1 := div (lit 1 1) (add (lit 1 1) (mul g (add g k)))
  let a2 := mul g a1
  let a3 := mul g a2
  let v3 := sub x ic2
  let v1 := add (mul a1 ic1) (mul a2 v3)
  let v2 := add (add ic2 (mul a2 ic1)) (mul a3 v3)
  let ic1' := sub (mul (lit 2 1) v1) ic1
  let ic2' := sub (mul (lit 2 1) v2) ic2
  match mode with
  | .lp => (v2, [ic1', ic2'])
  | .hp => (sub (sub x (mul k v1)) v2, [ic1', ic2'])

/-- D27: the default COMB_TUNING. -/
def defaultCombTuning : Vector Nat 8 := #v[1116, 1188, 1277, 1356, 1422, 1491, 1557, 1617]

/-- D28: the default AP_TUNING. -/
def defaultApTuning : Vector Nat 4 := #v[225, 341, 441, 556]

/-- D16: the default PARAM_DEFAULTS. -/
def defaultParamDefaults : Vector Word 14 :=
  #v[lit 220 1, plusZero, lit 5 10, lit 5 10, plusZero, plusZero, plusZero, plusZero, lit 5 10, lit 5 10, plusZero,
    plusZero, plusZero, plusZero]

/-- The spec's default configuration of every parameter (R9). -/
def defaultConfiguration : Params :=
  { sin := Numerics.sin, exp := Numerics.exp, exp2 := Numerics.exp2, pow := Numerics.pow, log10 := Numerics.log10,
    tan := Numerics.tan, driveShaper := defaultDriveShaper,
    phaserInit := [plusZero, plusZero, plusZero, plusZero, plusZero], phaserStep := defaultPhaserStep,
    svfInit := [plusZero, plusZero], svfStep := defaultSvfStep,
    combTuning := fun i => defaultCombTuning[i],
    apTuning := fun j => defaultApTuning[j],
    paramDefault := fun i => defaultParamDefaults[i] }

end Sys2Proof.Machine
end

