-- ==== Sys2Proof/Machine/Operands.lean ====
section
/-! DEFINITION. The operands of the commands (30_encoding R111 to R116): the knob value, the sample rate, the parameter
index, the selection delta, and the snapshot of the Parameter Store PROCESS reads (40_system R157). -/

namespace Sys2Proof.Machine

open Sys2Proof.F32

/-- R185: the knob value of a tick: DATA clamped to [0, 1]. "a NaN becomes +0.0" by R15's `max`, and -0.0 becomes +0.0. -/
def knobIn (k : Word) : Word := clamp k plusZero (lit 1 1)

/-- R153: a sample rate INIT accepts: at least 1.0 and below +infinity; a NaN fails both comparisons. -/
def validRate (fs : Word) : Bool := le (lit 1 1) fs && lt fs plusInf

/-- R112: the slot an index names, or none for an index out of range. -/
def slotOf (index : Nat) : Option (Fin 14) := if h : index < 14 then some ⟨index, h⟩ else none

/-- R186: `(current_param + delta) mod 14`, the mathematical modulo with result in [0, 14). -/
def selectSlot (i : Fin 14) (delta : Int) : Fin 14 :=
  Fin.ofNat 14 (((i.val : Int) + delta) % 14).toNat

/-- R203: the name code of an index (R124): the index, or 0xFFFFFFFF for `Unknown`. -/
def nameCode (index : Nat) : Word := if index < 14 then BitVec.ofNat 32 index else 0xFFFFFFFF#32

/-- R31, R125: the name of a slot. -/
def slotName : Vector String 14 :=
  #v["frequency", "waveform-morph", "amplitude", "filter-cutoff", "distortion", "phaser-depth", "detune",
    "reverb-amount", "reverb-length", "reverb-tone", "wobble-amount", "wobble-speed", "sweep-amount", "sweep-rate"]

/-- R125: the string the host maps a name code to; none for a word that is no name code. -/
def nameOfCode (w : Word) : Option String :=
  if w = 0xFFFFFFFF#32 then some "Unknown" else (slotOf w.toNat).map fun i => slotName[i]

/-- The frame snapshot S (R157) with the symbols of 10_state R31. -/
structure Snapshot where
  freq : Word
  wave : Word
  amp : Word
  filter : Word
  dist : Word
  phaser : Word
  detune : Word
  rvAmt : Word
  rvLen : Word
  rvTone : Word
  wobAmt : Word
  wobSpd : Word
  swpAmt : Word
  swpRate : Word
  deriving DecidableEq, Repr

/-- R157: the copy of the 14 slots PROCESS takes at its start. -/
def snapshot (p : Vector Word 14) : Snapshot :=
  { freq := p[0], wave := p[1], amp := p[2], filter := p[3], dist := p[4], phaser := p[5], detune := p[6],
    rvAmt := p[7], rvLen := p[8], rvTone := p[9], wobAmt := p[10], wobSpd := p[11], swpAmt := p[12],
    swpRate := p[13] }

end Sys2Proof.Machine
end

