-- ==== Sys2Proof/Machine/Controller.lean ====
section
/-! DEFINITION. The Parameter Controller's writing commands (41_parameter_controller R180 to R200): UPDATE_CONTROLS,
RANDOMIZE and RESET. -/

namespace Sys2Proof.Machine

open Sys2Proof.F32

/-! ## Parameter mappings -/

/-- R181: `Forward(i, k)`: `55 * POW(109, k)` for slot 0, the identity for the others. -/
def forward (cfg : Params) (i : Fin 14) (k : Word) : Word :=
  if i = 0 then mul (lit 55 1) (cfg.pow (lit 109 1) k) else k

/-- R182: `Inverse(i, v)`: `LOG10(v / 55) / LOG10(109)` for slot 0, unclamped; the identity for the others. -/
def inverse (cfg : Params) (i : Fin 14) (v : Word) : Word :=
  if i = 0 then div (cfg.log10 (div v (lit 55 1))) (cfg.log10 (lit 109 1)) else v

/-! ## UPDATE_CONTROLS -/

/-- R186: the selection event, taken when `delta` is not 0. -/
def selectionEvent (delta : Int) (knob : Word) (s : State) : State :=
  if delta = 0 then s else lockAt knob { s with currentParam := selectSlot s.currentParam delta }

/-- R188: the mute event, taken when M = 1. -/
def muteEvent (mute : Bool) (s : State) : State := if mute then toggleMute s else s

/-- R189: the threshold of the soft takeover, 0.15. -/
def lockThreshold : Word := lit 15 100

/-- R190: the write of the selected slot. -/
def writeSlot (cfg : Params) (knob : Word) (s : State) : State :=
  { s with params := s.params.set s.currentParam.val (forward cfg s.currentParam knob) }

/-- R189, R190: the knob tick: while LOCKED it may unlock and writes nothing; while UNLOCKED it writes. -/
def knobTick (cfg : Params) (knob : Word) (s : State) : State :=
  if s.locked then
    (if gt (fabs (sub knob s.lockReference)) lockThreshold then unlock s else s)
  else writeSlot cfg knob s

/-- R184, R187: one control tick: entry clamp, selection event, mute event, knob tick, in that order. -/
def controlTick (cfg : Params) (delta : Int) (mute : Bool) (s : State) : State :=
  let knob := knobIn s.data
  knobTick cfg knob (muteEvent mute (selectionEvent delta knob s))

/-- UPDATE_CONTROLS (R184). -/
def execUpdateControls (delta : Int) (mute : Bool) (s : State) : Host.Outcome State Fault Refusal :=
  whenInitialized (controlTick implementation delta mute) s

/-! ## RANDOMIZE -/

/-- R183: the lower ends of the randomize sub-ranges. -/
def randomMin : Vector Word 14 :=
  #v[lit 55 1, plusZero, lit 3 10, plusZero, plusZero, plusZero, plusZero, plusZero, plusZero, plusZero, plusZero,
    plusZero, plusZero, plusZero]

/-- R183: the upper ends of the randomize sub-ranges. -/
def randomMax : Vector Word 14 :=
  #v[lit 3000 1, lit 1 1, lit 7 10, lit 1 1, lit 4 10, lit 5 10, lit 3 10, lit 6 10, lit 1 1, lit 1 1, lit 3 10,
    lit 1 1, lit 5 10, lit 4 10]

/-- R198: the draw for slot `i` after `n` answers of the oracle: any value of the slot's closed sub-range, the draws
independent (a free value, log 6). -/
def drawSlot (n : Nat) (i : Fin 14) : Word := within randomMin[i] randomMax[i] (Config.draw (n + i.val))

/-- R197, R199: every slot takes its draw; nothing else changes (but the count of the oracle's answers, log 6). -/
def randomizeStore (s : State) : State :=
  { s with params := Vector.ofFn (drawSlot s.drawCount), drawCount := s.drawCount + 14 }

/-- RANDOMIZE (R197). -/
def execRandomize (s : State) : Host.Outcome State Fault Refusal := whenInitialized randomizeStore s

/-! ## RESET -/

/-- R152, R200: `P[i] <- PARAM_DEFAULTS[i]` for every slot. -/
def restoreDefaults (cfg : Params) (s : State) : State := { s with params := Vector.ofFn cfg.paramDefault }

/-- R200: the defaults restored, `locked` and `muted` cleared, nothing else. -/
def resetController (cfg : Params) (s : State) : State := unmute (unlock (restoreDefaults cfg s))

/-- RESET (R200). -/
def execReset (s : State) : Host.Outcome State Fault Refusal :=
  whenInitialized (resetController implementation) s

end Sys2Proof.Machine
end

