-- ==== Sys2Proof/Machine/Getters.lean ====
section
/-! DEFINITION. The five getters (41_parameter_controller R201 to R205): each writes RESULT only. -/

namespace Sys2Proof.Machine

open Sys2Proof.F32

/-- R116: a getter's one effect. -/
def answer (w : Word) (s : State) : State := { s with result := w }

/-- IS_MUTED (R201). -/
def execIsMuted (s : State) : Host.Outcome State Fault Refusal :=
  whenInitialized (answer (boolWord s.muted)) s

/-- GET_CURRENT_PARAM_INDEX (R202). -/
def execGetCurrentParamIndex (s : State) : Host.Outcome State Fault Refusal :=
  whenInitialized (answer (BitVec.ofNat 32 s.currentParam.val)) s

/-- GET_PARAM_NAME (R203): an index out of range answers the code of `Unknown`, not a fault. -/
def execGetParamName (index : Nat) (s : State) : Host.Outcome State Fault Refusal :=
  whenInitialized (answer (nameCode index)) s

/-- R204: the normalized value of a slot, +0.0 for an index out of range. -/
def paramValue (cfg : Params) (index : Nat) (s : State) : Word :=
  match slotOf index with
  | some i => inverse cfg i s.params[i]
  | none => plusZero

/-- GET_PARAM_VALUE (R204): an index out of range answers +0.0, not a fault. -/
def execGetParamValue (index : Nat) (s : State) : Host.Outcome State Fault Refusal :=
  whenInitialized (answer (paramValue implementation index s)) s

/-- IS_PARAM_LOCKED (R205). -/
def execIsParamLocked (s : State) : Host.Outcome State Fault Refusal :=
  whenInitialized (answer (boolWord s.locked)) s

end Sys2Proof.Machine
end

