-- ==== Sys2Proof/Machine/Effects.lean ====
section
/-! DEFINITION. The Effects Chain without the reverb (44_effects_chain R290 to R315): drive, phaser, filter, fixed
damping, output gain, soft limiter. A stage takes a sample and one channel's state. -/

namespace Sys2Proof.Machine

open Sys2Proof.F32

/-- R290: the bypass threshold 0.01 of drive, phaser and reverb. -/
def bypassed (amount : Word) : Bool := lt amount (lit 1 100)

/-! ## Drive -/

/-- R292: the crossfade of the sample and the driven sample. It has no state. -/
def drive (cfg : Params) (S : Snapshot) (x : Word) : Word :=
  let d := S.dist
  let k := add (lit 1 10) (mul (lit 8 10) d)
  if bypassed d then x else add (mul x (sub (lit 1 1) d)) (mul (cfg.driveShaper k x) d)

/-! ## Phaser -/

/-- R295: the phaser's rate, per channel. -/
def phaserRate (c : Chan) (p : Word) : Word :=
  match c with
  | .left => add (lit 5 10) (mul (lit 2 1) p)
  | .right => add (lit 4 10) (mul (lit 21 10) p)

/-- R295: the phaser stage; a bypassed phaser leaves its state (R291). -/
def phaser (cfg : Params) (fs : Word) (S : Snapshot) (c : Chan) (x : Word) (ch : ChannelState) :
    Word × ChannelState :=
  let p := S.phaser
  let r := cfg.phaserStep fs ch.phs x p (phaserRate c p)
  if bypassed p then (x, ch) else (r.1, { ch with phs := r.2 })

/-! ## Filter with dead-zone -/

/-- R300: the low-pass cutoff below 0.45. -/
def lowPassCutoff (v : Word) : Word := add (lit 100 1) (mul (div v (lit 45 100)) (lit 10000 1))

/-- R300: the high-pass cutoff above 0.55. -/
def highPassCutoff (v : Word) : Word :=
  let t := div (sub v (lit 55 100)) (lit 45 100)
  add (lit 50 1) (mul (mul t t) (lit 8000 1))

/-- R303: the fixed resonance 0.1. -/
def resonance : Word := lit 1 10

/-- R300, R301: the branch and cutoff of a filter value; none in the dead-zone [0.45, 0.55]. -/
def filterBranch (v : Word) : Option (Word × SvfMode) :=
  if lt v (lit 45 100) then some (lowPassCutoff v, .lp)
  else if gt v (lit 55 100) then some (highPassCutoff v, .hp)
  else none

/-- R300: the filter stage; in the dead-zone the sample passes and the state stays (R291); one state serves both
branches (R306). -/
def filterStage (cfg : Params) (fs : Word) (S : Snapshot) (x : Word) (ch : ChannelState) : Word × ChannelState :=
  match filterBranch S.filter with
  | some (fc, mode) =>
    let r := cfg.svfStep fs ch.svf x fc resonance mode
    (r.1, { ch with svf := r.2 })
  | none => (x, ch)

/-! ## Fixed damping -/

/-- R310: `1 - EXP(-((TWO_PI * 7000) / FS))`. -/
def dampCoefficient (cfg : Params) (fs : Word) : Word :=
  sub (lit 1 1) (cfg.exp (neg (div (mul twoPi (lit 7000 1)) fs)))

/-- R311: the damping stage, always on: `dmp <- dmp + DAMP_A * (x - dmp)`, which is also the output. -/
def damp (dampA x : Word) (ch : ChannelState) : Word × ChannelState :=
  let y := add ch.dmp (mul dampA (sub x ch.dmp))
  (y, { ch with dmp := y })

/-- R158: the stages of one channel before the reverb, in order: drive, phaser, filter, fixed damping. -/
def channelChain (cfg : Params) (fs dampA : Word) (S : Snapshot) (c : Chan) (v : Word) (ch : ChannelState) :
    Word × ChannelState :=
  let p := phaser cfg fs S c (drive cfg S v) ch
  let f := filterStage cfg fs S p.1 p.2
  damp dampA f.1 f.2

/-! ## Output gain and soft limiter -/

/-- R312: `x * S.amp`. -/
def gain (S : Snapshot) (x : Word) : Word := mul x S.amp

/-- R313: the soft limiter's knee 0.9. -/
def knee : Word := lit 9 10

/-- R313: the value above the knee: `0.9 + (x - 0.9) * 0.1`. -/
def softKnee (x : Word) : Word := add knee (mul (sub x knee) (lit 1 10))

/-- R313: the soft limiter; a NaN fails both comparisons and is returned (R315). -/
def limit (x : Word) : Word :=
  if gt x knee then softKnee x
  else if lt x (neg knee) then neg (softKnee (neg x))
  else x

end Sys2Proof.Machine
end

