-- ==== Sys2Proof/Machine/Voice.lean ====
section
/-! DEFINITION. The Waveform Bank and the Voice Generator (42_voice_generator R230 to R245). -/

namespace Sys2Proof.Machine

open Sys2Proof.F32

/-! ## Base waveforms -/

/-- R231: `SIN(TWO_PI * p)`. -/
def sineWave (cfg : Params) (p : Word) : Word := cfg.sin (mul twoPi p)

/-- R232: `1 - |fmod(4p, 4) - 2|`. -/
def triangleWave (p : Word) : Word :=
  sub (lit 1 1) (fabs (sub (fmod (mul (lit 4 1) p) (lit 4 1)) (lit 2 1)))

/-- R233: `2 * (p - round(p))`. -/
def sawWave (p : Word) : Word := mul (lit 2 1) (sub p (round p))

/-- R234: 0.8 below phase 0.5, -0.8 from there. -/
def squareWave (p : Word) : Word := if lt p (lit 5 10) then lit 8 10 else neg (lit 8 10)

/-- R230: the base waveforms, in index order 0 to 3. -/
inductive Waveform where
  | sine
  | triangle
  | saw
  | square
  deriving DecidableEq, Repr

/-- R230: the waveform of an index; an index is clamped to 3 before (R236). -/
def waveformOf (idx : Nat) : Waveform :=
  match idx with
  | 0 => .sine
  | 1 => .triangle
  | 2 => .saw
  | _ => .square

/-- R235: `Base(idx, p)`. -/
def baseWave (cfg : Params) (wf : Waveform) (p : Word) : Word :=
  match wf with
  | .sine => sineWave cfg p
  | .triangle => triangleWave p
  | .saw => sawWave p
  | .square => squareWave p

/-! ## Morph -/

/-- The two waveform indexes and the blend position of a frame (R236). -/
structure MorphIndex where
  ia : Nat
  ib : Nat
  fr : Word
  deriving DecidableEq, Repr

/-- R236: the morph indexes of `w = S.wave`. -/
def morphIndex (w : Word) : MorphIndex :=
  let morph := mul w (lit 3 1)
  let ia := (Min.min (Max.max (toInt (floor morph)) 0) 3).toNat
  let ib := Min.min (ia + 1) 3
  { ia := ia, ib := ib, fr := if ia = 3 then plusZero else sub morph (toF ia) }

/-- R237: `a * (1 - fr) + b * fr`. -/
def morphBlend (a b fr : Word) : Word := add (mul a (sub (lit 1 1) fr)) (mul b fr)

/-! ## Oscillators -/

/-- R239, R261: the phase after one step at frequency `f`: `frac(ph + f / FS)`. -/
def advancePhase (fs f ph : Word) : Word := frac (add ph (div f fs))

/-- R244: the voice of one channel at frequency `f`: both oscillators sample, then advance; the output is the blend. -/
def voice (cfg : Params) (fs w f : Word) (ch : ChannelState) : Word × ChannelState :=
  let m := morphIndex w
  let a := baseWave cfg (waveformOf m.ia) ch.phA
  let b := baseWave cfg (waveformOf m.ib) ch.phB
  (morphBlend a b m.fr, { ch with phA := advancePhase fs f ch.phA, phB := advancePhase fs f ch.phB })

end Sys2Proof.Machine
end

