-- ==== Sys2Proof/Machine/Modulation.lean ====
section
/-! DEFINITION. The Modulation Engine and the pitch path (43_modulation R260 to R273). -/

namespace Sys2Proof.Machine

open Sys2Proof.F32

/-- R262: the wobble LFO's frequency. -/
def wobbleRate (S : Snapshot) : Word := add (lit 1 10) (mul (lit 149 10) S.wobSpd)

/-- R263: the sweep LFO's frequency. -/
def sweepRate (S : Snapshot) : Word := add (lit 2 100) (mul (lit 48 100) S.swpRate)

/-- R265: `EXP2(swp * S.swp_amt)`. -/
def sweepFactor (cfg : Params) (S : Snapshot) (swp : Word) : Word := cfg.exp2 (mul swp S.swpAmt)

/-- R266: `((wob * S.freq) * 0.2) * S.wob_amt`. -/
def wobbleDeviation (S : Snapshot) (wob : Word) : Word := mul (mul (mul wob S.freq) (lit 2 10)) S.wobAmt

/-- R267: `(S.freq + wobble) * sweep_factor`, of the two LFO outputs. -/
def baseFreq (cfg : Params) (S : Snapshot) (wob swp : Word) : Word :=
  mul (add S.freq (wobbleDeviation S wob)) (sweepFactor cfg S swp)

/-- R268: `(base_freq * 0.05) * S.detune`. -/
def detuneHz (S : Snapshot) (base : Word) : Word := mul (mul base (lit 5 100)) S.detune

/-- R269: the oscillator clamp to [20, 12000] Hz. -/
def clampFreq (f : Word) : Word := clamp f (lit 20 1) (lit 12000 1)

/-- What `modulate` yields: the two channel frequencies and the advanced LFO phases. -/
structure Pitch where
  fLeft : Word
  fRight : Word
  phWob : Word
  phSwp : Word
  deriving DecidableEq, Repr

/-- R270: the pitch path of one frame. Both LFOs sample, then advance (R261), whatever the amounts (R272). -/
def modulate (cfg : Params) (fs : Word) (S : Snapshot) (phWob phSwp : Word) : Pitch :=
  let base := baseFreq cfg S (sineWave cfg phWob) (triangleWave phSwp)
  let detune := detuneHz S base
  { fLeft := clampFreq (sub base detune), fRight := clampFreq (add base detune),
    phWob := advancePhase fs (wobbleRate S) phWob, phSwp := advancePhase fs (sweepRate S) phSwp }

end Sys2Proof.Machine
end

