-- ==== Sys2Proof/Machine/Reverb.lean ====
section
/-! DEFINITION. The Reverb Network (45_reverb R341 to R359): 8 combs and 4 all-passes per channel with one shared
modulation LFO. The delay-line primitives are in Ops. -/

namespace Sys2Proof.Machine

open Sys2Proof.F32

/-- SPREAD on the right channel, nothing on the left (R8). -/
def spreadOf (c : Chan) : Nat :=
  match c with
  | .left => 0
  | .right => Config.spread

/-! ## Lengths -/

/-- R347: the sign of the offset: alternating with the line, flipped on the right channel. -/
def offsetSign (c : Chan) (i : Fin 8) : Int :=
  (if i.val % 2 = 0 then 1 else -1) * (match c with | .left => 1 | .right => -1)

/-- R347: `CombLength(c, i, off)`, in integers, clamped to [10, 1740]. -/
def combLength (cfg : Params) (c : Chan) (i : Fin 8) (off : Int) : Nat :=
  let base : Int := (cfg.combTuning i + spreadOf c : Nat)
  (Min.min (Max.max (base + offsetSign c i * off) (Config.combLenMin : Int)) (Config.combLenMax : Int)).toNat

/-- R351: `ApTuning(c, j)`. -/
def apLength (cfg : Params) (c : Chan) (j : Fin 4) : Nat := cfg.apTuning j + spreadOf c

/-! ## Parameters and modulation -/

/-- R346: `0.7 + 0.28 * S.rv_len`. -/
def feedbackOf (S : Snapshot) : Word := add (lit 7 10) (mul (lit 28 100) S.rvLen)

/-- R346: `(1 - S.rv_tone) * 0.4`. -/
def dampingOf (S : Snapshot) : Word := mul (sub (lit 1 1) S.rvTone) (lit 4 10)

/-- R348: `toInt(floor((mod * 15) * S.rv_amt))`, with `mod` the sine at the reverb's phase. -/
def modOffset (cfg : Params) (S : Snapshot) (phRev : Word) : Int :=
  toInt (floor (mul (mul (sineWave cfg phRev) (lit 15 1)) S.rvAmt))

/-- R348: the reverb LFO's frequency, 0.3 Hz. -/
def reverbRate : Word := lit 3 10

/-! ## Combs -/

/-- What one comb step leaves (R349): the output, the line and the damping accumulator. -/
structure CombResult where
  out : Word
  line : DelayLine
  damped : Word
  deriving DecidableEq, Repr

/-- R349: one comb step: the length is set before the read, the output is the value read. -/
def combStep (len : Nat) (feedback damping x : Word) (line : DelayLine) (cds : Word) : CombResult :=
  let sized := setLength len line
  let out := memRead Config.combCap sized
  let damped := add (mul out (sub (lit 1 1) damping)) (mul cds damping)
  { out := out, line := memWrite Config.combCap (add x (mul damped feedback)) sized, damped := damped }

/-- R349: the step of comb line `i` of channel `c`. -/
def combAt (cfg : Params) (c : Chan) (off : Int) (feedback damping x : Word) (ch : ChannelState) (i : Fin 8) :
    CombResult :=
  combStep (combLength cfg c i off) feedback damping x ch.comb[i] ch.cds[i]

/-- R350: the comb outputs added in line order, from line 0. -/
def sumInOrder (o : Vector Word 8) : Word :=
  add (add (add (add (add (add (add o[0] o[1]) o[2]) o[3]) o[4]) o[5]) o[6]) o[7]

/-- R350: the comb bank: every line takes the same input and steps by itself; the outputs are summed. -/
def combBank (cfg : Params) (c : Chan) (off : Int) (feedback damping x : Word) (ch : ChannelState) :
    Word × ChannelState :=
  let r : Vector CombResult 8 := Vector.ofFn (combAt cfg c off feedback damping x ch)
  (sumInOrder (r.map (·.out)), { ch with comb := r.map (·.line), cds := r.map (·.damped) })

/-! ## All-passes -/

/-- R351: one all-pass step: read, write `x + r/2`, re-set the length, return `r - w/2`. -/
def apStep (len : Nat) (x : Word) (line : DelayLine) : Word × DelayLine :=
  let r := memRead Config.apCap line
  let w := add x (mul r (lit 5 10))
  (sub r (mul w (lit 5 10)), setLength len (memWrite Config.apCap w line))

/-- R351: the step of all-pass stage `j` of channel `c`. -/
def apAt (cfg : Params) (c : Chan) (j : Fin 4) (p : Word × ChannelState) : Word × ChannelState :=
  let r := apStep (apLength cfg c j) p.1 p.2.ap[j]
  (r.1, { p.2 with ap := p.2.ap.set j.val r.2 })

/-- R352: the four stages in series, stage 0 first. -/
def apCascade (cfg : Params) (c : Chan) (p : Word × ChannelState) : Word × ChannelState :=
  apAt cfg c 3 (apAt cfg c 2 (apAt cfg c 1 (apAt cfg c 0 p)))

/-! ## The stage -/

/-- R356: `x * (1 - (amt * 0.5)) + ((wet * amt) * 0.015)`. -/
def mix (x wet amt : Word) : Word :=
  add (mul x (sub (lit 1 1) (mul amt (lit 5 10)))) (mul (mul wet amt) (lit 15 1000))

/-- R355: the reverb of one channel, for the shared offset of the frame. -/
def reverbChannel (cfg : Params) (S : Snapshot) (off : Int) (c : Chan) (x : Word) (ch : ChannelState) :
    Word × ChannelState :=
  let p := apCascade cfg c (combBank cfg c off (feedbackOf S) (dampingOf S) x ch)
  (mix x p.1 S.rvAmt, p.2)

/-- What the reverb stage yields: the two samples, the LFO phase and the two channels. -/
structure ReverbResult where
  wLeft : Word
  wRight : Word
  phRev : Word
  left : ChannelState
  right : ChannelState
  deriving DecidableEq, Repr

/-- R355: the reverb stage of both channels; bypassed below 0.01, leaving all its state (R345). -/
def reverb (cfg : Params) (fs : Word) (S : Snapshot) (uLeft uRight phRev : Word) (l r : ChannelState) :
    ReverbResult :=
  if bypassed S.rvAmt then { wLeft := uLeft, wRight := uRight, phRev := phRev, left := l, right := r }
  else
    let off := modOffset cfg S phRev
    let pl := reverbChannel cfg S off .left uLeft l
    let pr := reverbChannel cfg S off .right uRight r
    { wLeft := pl.1, wRight := pr.1, phRev := advancePhase fs reverbRate phRev, left := pl.2, right := pr.2 }

end Sys2Proof.Machine
end

