-- ==== Sys2Proof/Machine/System.lean ====
section
/-! DEFINITION. The system commands (40_system R150 to R162): NOP, INIT and PROCESS. -/

namespace Sys2Proof.Machine

open Sys2Proof.F32

/-! ## NOP -/

/-- NOP (R151): no state changes; accepted before INIT. -/
def execNop (s : State) : Host.Outcome State Fault Refusal := .next s

/-! ## INIT -/

/-- R152: a channel as INIT leaves it. -/
def freshChannel (cfg : Params) (c : Chan) : ChannelState :=
  { phA := plusZero, phB := plusZero, phs := cfg.phaserInit, svf := cfg.svfInit, dmp := plusZero,
    comb := Vector.ofFn fun i => freshLine (combLength cfg c i 0),
    cds := Vector.replicate 8 plusZero,
    ap := Vector.ofFn fun j => freshLine (apLength cfg c j) }

/-- R152: the full initialisation at rate `fs`. DATA, RESULT and STATUS.ERR are not changed (nor the model's own
fields). -/
def initState (cfg : Params) (fs : Word) (s : State) : State :=
  { restoreDefaults cfg s with
    fs := fs, dampA := dampCoefficient cfg fs,
    currentParam := 0, locked := false, lockReference := plusZero, muted := false,
    phWob := plusZero, phSwp := plusZero, phRev := plusZero,
    left := freshChannel cfg .left, right := freshChannel cfg .right,
    outL := plusZero, outR := plusZero, initDone := true }

/-- R152, R153: INIT with the rate in DATA: a rate that is not valid faults with BAD_SAMPLE_RATE. -/
def initFromData (cfg : Params) (s : State) : State :=
  if validRate s.data then initState cfg s.data s else raiseFault .badSampleRate s

/-- INIT (R152). -/
def execInit (s : State) : Host.Outcome State Fault Refusal := .next (initFromData implementation s)

/-! ## PROCESS -/

/-- What an unmuted frame yields: the two outputs and the datapath state. -/
structure FrameResult where
  outL : Word
  outR : Word
  phWob : Word
  phSwp : Word
  phRev : Word
  left : ChannelState
  right : ChannelState
  deriving DecidableEq, Repr

/-- R161: the state elements a frame writes; all others stay. -/
def writeFrame (r : FrameResult) (s : State) : State :=
  { s with
    outL := r.outL, outR := r.outR, phWob := r.phWob, phSwp := r.phSwp, phRev := r.phRev, left := r.left,
    right := r.right }

/-- R155, R158: one channel before the reverb: its voice at frequency `f`, then its chain. The voice output enters the
chain with no gain (R160). -/
def channelFrame (cfg : Params) (fs dampA : Word) (S : Snapshot) (c : Chan) (f : Word) (ch : ChannelState) :
    Word × ChannelState :=
  let v := voice cfg fs S.wave f ch
  channelChain cfg fs dampA S c v.1 v.2

/-- R155: the result of one unmuted frame on the snapshot `S`: modulation, both channels, reverb, gain and limiter, in
the fixed order of R158, channel L before R (log 19). -/
def frameResult (cfg : Params) (S : Snapshot) (s : State) : FrameResult :=
  let m := modulate cfg s.fs S s.phWob s.phSwp
  let l := channelFrame cfg s.fs s.dampA S .left m.fLeft s.left
  let r := channelFrame cfg s.fs s.dampA S .right m.fRight s.right
  let w := reverb cfg s.fs S l.1 r.1 s.phRev l.2 r.2
  { outL := limit (gain S w.wLeft), outR := limit (gain S w.wRight),
    phWob := m.phWob, phSwp := m.phSwp, phRev := w.phRev, left := w.left, right := w.right }

/-- R155, R157: one unmuted frame, on the snapshot taken at its start. -/
def frame (cfg : Params) (s : State) : State := writeFrame (frameResult cfg (snapshot s.params) s) s

/-- R156: a muted frame: +0.0 on both outputs and nothing else. -/
def mutedFrame (s : State) : State := { s with outL := plusZero, outR := plusZero }

/-- R155, R156: the frame PROCESS produces. -/
def processFrame (cfg : Params) (s : State) : State := if s.muted then mutedFrame s else frame cfg s

/-- PROCESS (R155). -/
def execProcess (s : State) : Host.Outcome State Fault Refusal := whenInitialized (processFrame implementation) s

end Sys2Proof.Machine
end

