-- ==== Sys2Proof/Machine/Dispatch.lean ====
section
/-! DEFINITION. The dispatcher: one arm per command (40_system R150 step 3, 30_encoding R117). -/

namespace Sys2Proof.Machine

def exec (i : Instr) (s : State) : Host.Outcome State Fault Refusal :=
  match i with
  | .nop => Sys2Proof.Machine.execNop s
  | .init => Sys2Proof.Machine.execInit s
  | .process => Sys2Proof.Machine.execProcess s
  | .updateControls delta mute => Sys2Proof.Machine.execUpdateControls delta mute s
  | .randomize => Sys2Proof.Machine.execRandomize s
  | .reset => Sys2Proof.Machine.execReset s
  | .isMuted => Sys2Proof.Machine.execIsMuted s
  | .getCurrentParamIndex => Sys2Proof.Machine.execGetCurrentParamIndex s
  | .getParamName index => Sys2Proof.Machine.execGetParamName index s
  | .getParamValue index => Sys2Proof.Machine.execGetParamValue index s
  | .isParamLocked => Sys2Proof.Machine.execIsParamLocked s

end Sys2Proof.Machine
end

