-- ==== Sys2Proof/Machine/Port.lean ====
section
/-! DEFINITION. The host port (20_memory R80 to R88, 40_system R150): reads and writes of the register block, and the
decoding of a command word written to CMD. -/

namespace Sys2Proof.Machine

/-! ## The register block (R81) -/

/-- The window of the register block, in bytes (R80). -/
def windowSize : Nat := 256

/-- R81: what a host read returns: CMD and the reserved offsets return 0. -/
def readRegister (s : State) (offset : Nat) : Word :=
  match offset with
  | 0x00 => 0#32
  | 0x04 => s.data
  | 0x08 => s.result
  | 0x0C => s.outL
  | 0x10 => s.outR
  | 0x14 => statusWord s
  | _ => 0#32

/-- R150: a word written to CMD: (1) an illegal word faults; (2) before INIT, and (3) after it, the command executes by
its own rule (`exec` holds both). -/
def command (w : Word) (s : State) : Host.Outcome State Fault Refusal :=
  match decode w with
  | .ok i => exec i s
  | .error _ => .next (raiseFault .illegalCommand s)

/-- R81, R84: a host write of a word: CMD executes it, DATA takes it, every other offset faults. -/
def writeRegister (offset : Nat) (w : Word) (s : State) : Host.Outcome State Fault Refusal :=
  match offset with
  | 0x00 => command w s
  | 0x04 => .next { s with data := w }
  | _ => .next (raiseFault .writeToReadonlyOrReserved s)

/-- R83: only aligned 32-bit accesses have a meaning. -/
def alignedWord (offset size : Nat) : Bool := decide (size = 4) && decide (offset % 4 = 0)

/-- R80, R83: an access outside the window is not the CORE's (log 13), an access that is not an aligned word is
refused, any other is served. -/
def checkAccess (offset size : Nat) (served : Host.Outcome State Fault Refusal) :
    Host.Outcome State Fault Refusal :=
  if windowSize ≤ offset then .fault .outsideRegisterBlock
  else if alignedWord offset size then served
  else .refused .accessNotAlignedWord

/-- R81, R87: one host access. A read changes nothing but what the host sees (`readData`, log 3). -/
def serve (a : HostAccess) (s : State) : Host.Outcome State Fault Refusal :=
  match a with
  | .read offset size => checkAccess offset size (.next { s with readData := some (readRegister s offset) })
  | .write offset size value => checkAccess offset size (writeRegister offset value s)

/-- R85, R415: one step: the first access that arrives is served completely; with none, the CORE holds its state. -/
def serveNext (s : State) : Host.Outcome State Fault Refusal :=
  match s.hostBus with
  | [] => .next s
  | a :: rest => serve a { s with hostBus := rest }

/-- R110, R121: the access that writes the command word `w`. -/
def commandWrite (w : Word) : HostAccess := .write 0x00 4 w

/-- R404: which reason the CORE's fault has for a word written to CMD, in the order of priority; none if it does not
fault. -/
def commandFault (w : Word) (s : State) : Option FaultReason :=
  match decode w with
  | .error _ => some .illegalCommand
  | .ok i =>
    if i = .nop then none
    else if i = .init then (if validRate s.data then none else some .badSampleRate)
    else if s.initDone then none else some .notInitialized

/-! ## Host addresses -/

/-- R81: the offset in the window of a host address, BASE being the platform's (log 14). -/
def offsetOf (addr : Nat) : Option Nat :=
  if Config.base ≤ addr ∧ addr < Config.base + windowSize then some (addr - Config.base) else none

end Sys2Proof.Machine
end

