-- ==== Sys2Proof/Machine/Step.lean ====
section
/-! DEFINITION. One step of the machine, and how the host places a command where the next step takes it. -/

namespace Sys2Proof.Machine

/-- One step: the next host access arrives at the port and is served completely (20_memory R85, log 2). -/
def step (s : State) : Host.Outcome State Fault Refusal := serveNext s

/-- The state with a write of the command word `w` to CMD as the access that arrives next: a command is not stored, it
arrives (20_memory R92, log 2). -/
def State.withFetchWord (s : State) (nbits w : Nat) : State :=
  { s with hostBus := commandWrite (BitVec.ofNat 32 (w % 2 ^ nbits)) :: s.hostBus }

end Sys2Proof.Machine
end

