-- ==== Sys2Proof/Machine/Assembler.lean ====
section
/-! DEFINITION. The host assembly language (30_encoding R122, R123): the bus accesses a statement stands for, the
expansion of the pseudo-statements, and the reading of a program's text, a list of characters (log 16). -/

namespace Sys2Proof.Machine

/-- The registers `rd` reads (R122). -/
inductive PortReg where
  | data
  | result
  | outL
  | outR
  | status
  deriving DecidableEq, Repr

/-- R81: the byte offset of a register `rd` reads. -/
def portOffset (r : PortReg) : Nat :=
  match r with
  | .data => 0x04
  | .result => 0x08
  | .outL => 0x0C
  | .outR => 0x10
  | .status => 0x14

/-- A statement of R122. -/
inductive AsmStmt where
  | nop
  | init (fs : Word)
  | process
  | update (delta : Int) (mute : Bool) (knob : Word)
  | randomize
  | reset
  | ismuted
  | getidx
  | getname (idx : Nat)
  | getval (idx : Nat)
  | islocked
  | rd (reg : PortReg)
  deriving DecidableEq, Repr

/-- R122: the operand ranges of a statement: delta in [-128, 127], idx in [0, 255]. -/
def asmLegal (a : AsmStmt) : Bool :=
  match a with
  | .update delta _ _ => deltaFits delta
  | .getname idx => indexFits idx
  | .getval idx => indexFits idx
  | .nop => true
  | .init _ => true
  | .process => true
  | .randomize => true
  | .reset => true
  | .ismuted => true
  | .getidx => true
  | .islocked => true
  | .rd _ => true

/-- The write of DATA (R81). -/
def dataWrite (w : Word) : HostAccess := .write 0x04 4 w

/-- R122: the bus accesses of a statement, DATA before CMD. -/
def assemble (a : AsmStmt) : List HostAccess :=
  match a with
  | .nop => [commandWrite (encode .nop)]
  | .init fs => [dataWrite fs, commandWrite (encode .init)]
  | .process => [commandWrite (encode .process)]
  | .update delta mute knob => [dataWrite knob, commandWrite (encode (.updateControls delta mute))]
  | .randomize => [commandWrite (encode .randomize)]
  | .reset => [commandWrite (encode .reset)]
  | .ismuted => [commandWrite (encode .isMuted)]
  | .getidx => [commandWrite (encode .getCurrentParamIndex)]
  | .getname idx => [commandWrite (encode (.getParamName idx))]
  | .getval idx => [commandWrite (encode (.getParamValue idx))]
  | .islocked => [commandWrite (encode .isParamLocked)]
  | .rd reg => [.read (portOffset reg) 4]

/-- A pseudo-statement of R123. -/
inductive AsmPseudo where
  | tick (knob : Word)
  /-- `delta` is not zero -/
  | select (delta : Int) (knob : Word)
  | togglemute (knob : Word)
  | frames (n : Nat)
  | getall
  deriving DecidableEq, Repr

/-- R123: the expansion of a pseudo-statement. -/
def expandPseudo (p : AsmPseudo) : List AsmStmt :=
  match p with
  | .tick knob => [.update 0 false knob]
  | .select delta knob => [.update delta false knob]
  | .togglemute knob => [.update 0 true knob]
  | .frames n => List.replicate n .process
  | .getall => (List.range 14).flatMap fun i => [.getval i, .rd .result]

/-- R122: the bus accesses of a program, in order. -/
def assembleAll (l : List AsmStmt) : List HostAccess := l.flatMap assemble

/-! ## Text -/

/-- The value of decimal digits; none for no digit or another character. -/
def readNat (l : List Char) : Option Nat :=
  if l.isEmpty || !l.all (fun c => decide ('0' ≤ c ∧ c ≤ '9')) then none
  else some (l.foldl (fun n c => 10 * n + (c.toNat - 48)) 0)

/-- The value of a hexadecimal digit. -/
def hexDigit (c : Char) : Option Nat :=
  if '0' ≤ c ∧ c ≤ '9' then some (c.toNat - 48)
  else if 'A' ≤ c ∧ c ≤ 'F' then some (c.toNat - 55)
  else if 'a' ≤ c ∧ c ≤ 'f' then some (c.toNat - 87)
  else none

/-- R122: the word of hexadecimal digits; none above 32 bits. -/
def readHex (l : List Char) : Option Word :=
  match l.foldl (fun n c => n.bind fun v => (hexDigit c).map fun d => 16 * v + d) (some 0) with
  | some v => if l.isEmpty || decide (2 ^ 32 ≤ v) then none else some (BitVec.ofNat 32 v)
  | none => none

/-- R14: the binary32 of an unsigned decimal numeral, with or without a fraction. -/
def readDecimal (l : List Char) : Option Word :=
  let whole := l.takeWhile (· != '.')
  match l.dropWhile (· != '.') with
  | [] => (readNat whole).map fun n => F32.lit n 1
  | _ :: part =>
    (readNat whole).bind fun n => (readNat part).map fun f =>
      F32.lit (n * 10 ^ part.length + f) (10 ^ part.length)

/-- R122: a binary32 operand: a decimal numeral, or the word after `0x`. -/
def readWord (l : List Char) : Option Word :=
  match l with
  | '0' :: 'x' :: h => readHex h
  | '-' :: r => (readDecimal r).map F32.neg
  | r => readDecimal r

/-- R122: an integer operand. -/
def readInt (l : List Char) : Option Int :=
  match l with
  | '0' :: 'x' :: h => (readHex h).map fun w => (w.toNat : Int)
  | '-' :: r => (readNat r).map fun n => -(n : Int)
  | r => (readNat r).map fun n => (n : Int)

/-- R122: an operand of an index, and a count. -/
def readIndex (l : List Char) : Option Nat :=
  (readInt l).bind fun n => if n < 0 then none else some n.toNat

/-- R122: the operand `m`, 0 or 1. -/
def readBit (l : List Char) : Option Bool :=
  (readInt l).bind fun n => if n = 0 then some false else if n = 1 then some true else none

/-- R122: the register names `rd` takes. -/
def regNames : List (List Char × PortReg) :=
  [(['D', 'A', 'T', 'A'], .data), (['R', 'E', 'S', 'U', 'L', 'T'], .result), (['O', 'U', 'T', '_', 'L'], .outL),
   (['O', 'U', 'T', '_', 'R'], .outR), (['S', 'T', 'A', 'T', 'U', 'S'], .status)]

/-- R122, R123: the statements without operands. -/
def plainStmts : List (List Char × List AsmStmt) :=
  [(['n', 'o', 'p'], [.nop]), (['p', 'r', 'o', 'c', 'e', 's', 's'], [.process]),
   (['r', 'a', 'n', 'd', 'o', 'm', 'i', 'z', 'e'], [.randomize]), (['r', 'e', 's', 'e', 't'], [.reset]),
   (['i', 's', 'm', 'u', 't', 'e', 'd'], [.ismuted]), (['g', 'e', 't', 'i', 'd', 'x'], [.getidx]),
   (['i', 's', 'l', 'o', 'c', 'k', 'e', 'd'], [.islocked]), (['g', 'e', 't', 'a', 'l', 'l'], expandPseudo .getall)]

/-- R122, R123: the statements of one operand, each with the reading of it. -/
def unaryStmts : List (List Char × (List Char → Option (List AsmStmt))) :=
  [(['i', 'n', 'i', 't'], fun a => (readWord a).map fun w => [.init w]),
   (['g', 'e', 't', 'n', 'a', 'm', 'e'], fun a => (readIndex a).map fun n => [.getname n]),
   (['g', 'e', 't', 'v', 'a', 'l'], fun a => (readIndex a).map fun n => [.getval n]),
   (['r', 'd'], fun a => (regNames.find? fun p => p.1 == a).map fun p => [.rd p.2]),
   (['t', 'i', 'c', 'k'], fun a => (readWord a).map fun w => expandPseudo (.tick w)),
   (['t', 'o', 'g', 'g', 'l', 'e', 'm', 'u', 't', 'e'],
    fun a => (readWord a).map fun w => expandPseudo (.togglemute w)),
   (['f', 'r', 'a', 'm', 'e', 's'], fun a => (readIndex a).map fun n => expandPseudo (.frames n))]

/-- R122, R123: the statements a mnemonic and its operands stand for, before their ranges are checked. -/
def readStmt (m : List Char) (args : List (List Char)) : Option (List AsmStmt) :=
  match args with
  | [] => (plainStmts.find? fun p => p.1 == m).map fun p => p.2
  | [a] => (unaryStmts.find? fun p => p.1 == m).bind fun p => p.2 a
  | [a, b] =>
    if m = ['s', 'e', 'l', 'e', 'c', 't'] then
      (readInt a).bind fun d => (readWord b).bind fun w =>
        if d = 0 then none else some (expandPseudo (.select d w))
    else none
  | [a, b, c] =>
    if m = ['u', 'p', 'd', 'a', 't', 'e'] then
      (readInt a).bind fun d => (readBit b).bind fun t => (readWord c).map fun w => [.update d t w]
    else none
  | _ :: _ :: _ :: _ :: _ => none

/-- The fields of a line: its characters cut at blanks and commas, empty pieces dropped. -/
def fieldsOf (l : List Char) : List (List Char) :=
  (l.splitOnP fun c => c == ' ' || c == '\t' || c == ',').filter fun w => !w.isEmpty

/-- R122: the statements of one line; a comment runs from `;` to the end, and an empty line is no statement. -/
def readLine (l : List Char) : Option (List AsmStmt) :=
  match fieldsOf (l.takeWhile (· != ';')) with
  | [] => some []
  | m :: args => (readStmt m args).bind fun stmts => if stmts.all asmLegal then some stmts else none

/-- R122: the bus accesses of a program's text, one statement per line; none if a line is no statement. -/
def assembleText (src : List Char) : Option (List HostAccess) :=
  ((src.splitOnP (· == '\n')).mapM readLine).map fun l => assembleAll l.flatten

end Sys2Proof.Machine
end

