-- ==== Sys2Proof/Safety.lean ====
section
/-! DEFINITION. The invariants of the machine, in the terms the statements use. -/

namespace Sys2Proof.Machine

open Sys2Proof.F32

/-- A phase in [0, 1) (10_state R42, R43, R49): a non-negative binary32 below 1.0. -/
abbrev phaseOk (w : Word) : Prop := w.toNat < 0x3F800000

/-- A word between two others, as binary32 values. -/
abbrev inRange (lo hi w : Word) : Prop := le lo w = true ∧ le w hi = true

/-- The storage of a delay line of capacity `cap` (R47, R48): the write index and every listed index below the
capacity, and the buffer in its canonical form. -/
abbrev lineOk (cap : Nat) (l : DelayLine) : Prop :=
  l.wp < cap ∧ Memory.wf l.buf = true ∧ ∀ c ∈ l.buf, c.1 < cap

/-- Every delay line's storage is in order. -/
def storageOk (s : State) : Prop :=
  ∀ c : Chan, (∀ i : Fin 8, lineOk Config.combCap (channel s c).comb[i]) ∧
    (∀ j : Fin 4, lineOk Config.apCap (channel s c).ap[j])

/-- After INIT, every comb length is in [10, 1740] (R47) and every all-pass length is its tuning (R48). -/
def lengthsOk (s : State) : Prop :=
  s.initDone = true → ∀ c : Chan,
    (∀ i : Fin 8, Config.combLenMin ≤ (channel s c).comb[i].len ∧ (channel s c).comb[i].len ≤ Config.combLenMax) ∧
    (∀ j : Fin 4, (channel s c).ap[j].len = apLength implementation c j)

/-- 42_voice_generator R242: the two oscillators of a channel are at one phase. -/
def lockstepOk (s : State) : Prop := ∀ c : Chan, (channel s c).phA = (channel s c).phB

/-- After INIT, the sample rate is one INIT accepts (R153). -/
def rateOk (s : State) : Prop := s.initDone = true → validRate s.fs = true

/-- After INIT, every slot but slot 0 is in [0, 1] (10_state R31, R32). Slot 0's range depends on NUMERICS. -/
def slotsOk (s : State) : Prop :=
  s.initDone = true → ∀ i : Fin 14, i ≠ 0 → inRange plusZero (lit 1 1) s.params[i]

/-- Every phase accumulator is in [0, 1). -/
def phasesOk (s : State) : Prop :=
  phaseOk s.phWob ∧ phaseOk s.phSwp ∧ phaseOk s.phRev ∧
    ∀ c : Chan, phaseOk (channel s c).phA ∧ phaseOk (channel s c).phB

/-- The invariant of the machine. -/
structure Inv (s : State) : Prop where
  storage : storageOk s
  lengths : lengthsOk s
  lockstep : lockstepOk s
  rate : rateOk s
  slots : slotsOk s
  phases : phasesOk s

/-! ## Vocabulary of the statements -/

/-- Two states a host cannot tell apart before INIT: the port registers, STATUS.ERR and the model's own fields agree
(10_state R39, R52). -/
structure PortsAgree (s s' : State) : Prop where
  data : s.data = s'.data
  result : s.result = s'.result
  outL : s.outL = s'.outL
  outR : s.outR = s'.outR
  err : s.err = s'.err
  hostBus : s.hostBus = s'.hostBus
  readData : s.readData = s'.readData
  drawCount : s.drawCount = s'.drawCount

/-- Control ticks without a selection or a mute event, each with its own knob word in DATA (41_parameter_controller
R191). -/
def runTicks : List Word → State → Host.Outcome State Fault Refusal
  | [], s => .next s
  | k :: ks, s =>
    match exec (.updateControls 0 false) { s with data := k } with
    | .next t => runTicks ks t
    | o => o

/-- The writes of a delay line since INIT, oldest first, each after the line was set to some length (45_reverb R344). -/
def writeAll (cap : Nat) (l : List (Nat × Word)) (line : DelayLine) : DelayLine :=
  l.foldl (fun a p => memWrite cap p.2 (setLength p.1 a)) line

/-- The infinity of a sign. -/
def infinity (negative : Bool) : Word := if negative then 0xFF800000#32 else 0x7F800000#32

/-- `2^128 - 2^103` in units of 2^-149: half-way between the largest finite binary32 and the next step above it, from
where a result overflows (00_scope R13). -/
def overflowThreshold : Int := (2 ^ 25 - 1) * 2 ^ 252

/-- R13: `r` is the binary32 that the exact value `n / d`, in units of 2^-149, rounds to: an infinity of its sign if it is
at or above the threshold, else finite, no finite binary32 nearer, the even one if another is as near. -/
structure RoundsTo (r : Word) (n d : Int) : Prop where
  finite : isFinite r = true ↔ |n| < overflowThreshold * |d|
  overflow : isFinite r = false → r = infinity (decide (n < 0) != decide (d < 0))
  nearest : isFinite r = true → ∀ y : Word, isFinite y = true → |scaled r * d - n| ≤ |scaled y * d - n|
  even : isFinite r = true → ∀ y : Word, isFinite y = true →
    |scaled r * d - n| = |scaled y * d - n| → scaled y ≠ scaled r → magBits r % 2 = 0

/-- R183 written out: the randomize sub-range of a slot, as binary32 patterns. -/
def randomRange (i : Fin 14) : Word × Word :=
  match i with
  | 0 => (0x425C0000#32, 0x453B8000#32)
  | 1 => (0x00000000#32, 0x3F800000#32)
  | 2 => (0x3E99999A#32, 0x3F333333#32)
  | 3 => (0x00000000#32, 0x3F800000#32)
  | 4 => (0x00000000#32, 0x3ECCCCCD#32)
  | 5 => (0x00000000#32, 0x3F000000#32)
  | 6 => (0x00000000#32, 0x3E99999A#32)
  | 7 => (0x00000000#32, 0x3F19999A#32)
  | 8 => (0x00000000#32, 0x3F800000#32)
  | 9 => (0x00000000#32, 0x3F800000#32)
  | 10 => (0x00000000#32, 0x3E99999A#32)
  | 11 => (0x00000000#32, 0x3F800000#32)
  | 12 => (0x00000000#32, 0x3F000000#32)
  | 13 => (0x00000000#32, 0x3ECCCCCD#32)

/-- R119 written out: OP is 0xB to 0xF, or the word is not its row's match under its row's mask (R117). -/
def illegalWord (w : Word) : Prop :=
  let op := w.toNat / 2 ^ 28
  let mask : Word := if op = 3 then 0xFF00FFFE#32 else if op = 8 ∨ op = 9 then 0xFF00FFFF#32 else 0xFFFFFFFF#32
  11 ≤ op ∨ w &&& mask ≠ BitVec.ofNat 32 (op * 2 ^ 28)

end Sys2Proof.Machine
end

