-- ==== Sys2Proof/Certificates/Slice0/Obligations.lean ====
section
/-! DEFINITION. The statements for the provers. Each docstring names the rule of spec/ it formalises; the parameters
are `implementation`, whose fields are opaque, so a statement holds for every value of them. -/

open Sys2Proof Sys2Proof.Machine Sys2Proof.F32

/-! ## Encoding -/

/-- 30_encoding R117, R118, R122: decoding the word of a well-formed command gives the command back. -/
def Obligations.DecodeEncodeRoundTrip : Prop :=
  ∀ i : Instr, i.wellFormed = true → decode (encode i) = .ok i

/-- R118, R120: a word that decodes is the word of the command it decodes to, whose operands fit. -/
def Obligations.DecodeAcceptsOnlyEncodings : Prop :=
  ∀ (w : Word) (i : Instr), decode w = .ok i → i.wellFormed = true ∧ encode i = w

/-- R119: which words are illegal, and what they do when written to CMD. -/
def Obligations.IllegalWordFaultsAndChangesNothingElse : Prop :=
  ∀ (w : Word) (s : State),
    (illegalWord w → (∃ e, decode w = .error e) ∧ command w s = .next { s with err := true }) ∧
    (¬ illegalWord w → ∃ i, decode w = .ok i)

/-- R117: some words of the opcode map, and two illegal ones (95_test_vectors section 3.1). -/
def Obligations.SampleWordsDecode : Prop :=
  decode 0x10000000#32 = .ok .init ∧ decode 0x20000000#32 = .ok .process ∧
  decode 0x30FD0001#32 = .ok (.updateControls (-3) true) ∧ decode 0x40000000#32 = .ok .randomize ∧
  decode 0x80070000#32 = .ok (.getParamName 7) ∧ decode 0x90020000#32 = .ok (.getParamValue 2) ∧
  decode 0x60010000#32 = .error .fieldNotZero ∧ decode 0xB0000000#32 = .error .reservedOpcode

/-- R122: the two bus writes of an `update` statement run UPDATE_CONTROLS with the knob in DATA. -/
def Obligations.AssembledUpdateRuns : Prop :=
  ∀ (s : State) (rest : List HostAccess) (delta : Int) (mute : Bool) (knob : Word),
    asmLegal (.update delta mute knob) = true → s.hostBus = assemble (.update delta mute knob) ++ rest →
    ∃ t, step s = .next t ∧ step t = exec (.updateControls delta mute) { s with data := knob, hostBus := rest }

/-! ## The port -/

/-- 20_memory R85, 40_system R150: a command word that decodes runs as its command; the step adds only that the access
leaves the bus. -/
def Obligations.StepRunsTheDecodedCommand : Prop :=
  ∀ (s : State) (rest : List HostAccess) (w : Word) (i : Instr),
    s.hostBus = commandWrite w :: rest → decode w = .ok i → step s = exec i { s with hostBus := rest }

/-- R81, R87: an aligned word read returns the register of the map and changes nothing the CORE holds. -/
def Obligations.HostReadReturnsRegister : Prop :=
  ∀ (s : State) (rest : List HostAccess) (o : Nat), s.hostBus = .read o 4 :: rest → o % 4 = 0 → o < 256 →
    step s = .next { s with
      hostBus := rest,
      readData := some (if o = 4 then s.data else if o = 8 then s.result else if o = 12 then s.outL
        else if o = 16 then s.outR
        else if o = 20 then (if s.initDone then 1#32 else 0#32) ||| (if s.err then 2#32 else 0#32) else 0#32) }

/-- R84: a write to RESULT, OUT_L, OUT_R, STATUS or a reserved offset sets STATUS.ERR and nothing else; R81: a write to
DATA stores the word and nothing else changes. -/
def Obligations.WritesOfOtherRegisters : Prop :=
  (∀ (s : State) (rest : List HostAccess) (o : Nat) (w : Word), s.hostBus = .write o 4 w :: rest →
    o % 4 = 0 → 8 ≤ o → o < 256 → step s = .next { s with hostBus := rest, err := true }) ∧
  (∀ (s : State) (rest : List HostAccess) (w : Word), s.hostBus = .write 4 4 w :: rest →
    step s = .next { s with hostBus := rest, data := w })

/-- R83: an access that is not an aligned 32-bit word is refused, by name. -/
def Obligations.UnalignedOrNarrowAccessRefused : Prop :=
  ∀ (s : State) (rest : List HostAccess) (o n : Nat) (w : Word), o < 256 → (n ≠ 4 ∨ o % 4 ≠ 0) →
    (s.hostBus = .read o n :: rest → step s = .refused .accessNotAlignedWord) ∧
    (s.hostBus = .write o n w :: rest → step s = .refused .accessNotAlignedWord)

/-- 10_state R40: STATUS bit 0 is INIT_DONE, bit 1 is ERR, every other bit reads 0. -/
def Obligations.StatusWordHasTwoBits : Prop :=
  ∀ s : State, (statusWord s).getLsbD 0 = s.initDone ∧ (statusWord s).getLsbD 1 = s.err ∧
    ∀ n, 2 ≤ n → (statusWord s).getLsbD n = false

/-- R40, 60_exceptions R402: no step clears INIT_DONE or ERR. -/
def Obligations.StepNeverClearsStatus : Prop :=
  ∀ s t : State, step s = .next t → (s.initDone = true → t.initDone = true) ∧ (s.err = true → t.err = true)

/-- R402, R405: every aligned word access of the window is served: no word, whatever it is, stops the CORE; R415: with
no access arriving, the CORE holds its state. -/
def Obligations.AlignedAccessIsAlwaysServed : Prop :=
  (∀ (s : State) (rest : List HostAccess) (o : Nat) (w : Word), o % 4 = 0 → o < 256 →
    (s.hostBus = .read o 4 :: rest ∨ s.hostBus = .write o 4 w :: rest) → ∃ t, step s = .next t ∧ t.hostBus = rest) ∧
  (∀ s : State, s.hostBus = [] → step s = .next s)

/-! ## Faults -/

/-- R403: before INIT every command but NOP and INIT sets STATUS.ERR and does nothing else. -/
def Obligations.CommandBeforeInitFaults : Prop :=
  ∀ (i : Instr) (s : State), s.initDone = false → i ≠ .nop → i ≠ .init → exec i s = .next { s with err := true }

/-- R404: the fault reason of a word, in the order of priority; R405: a word with a reason changes STATUS.ERR only, a
word without one leaves STATUS.ERR. -/
def Obligations.FaultPriorityAndPrecision : Prop :=
  ∀ (w : Word) (s : State),
    (∀ e, decode w = .error e → commandFault w s = some .illegalCommand) ∧
    (∀ i, decode w = .ok i → i ≠ .nop → i ≠ .init → s.initDone = false →
      commandFault w s = some .notInitialized) ∧
    (decode w = .ok .init → validRate s.data = false → commandFault w s = some .badSampleRate) ∧
    (∀ i, decode w = .ok i →
      (i = .nop ∨ (i = .init ∧ validRate s.data = true) ∨ (i ≠ .init ∧ s.initDone = true)) →
      commandFault w s = none) ∧
    (∀ r, commandFault w s = some r → command w s = .next { s with err := true }) ∧
    (commandFault w s = none → ∃ t, command w s = .next t ∧ t.err = s.err)

/-! ## Power-up and INIT -/

/-- R52: the values the spec gives at power-up: the port registers and STATUS are 0. -/
def Obligations.PowerUpPortRegistersAreZero : Prop :=
  State.reset.data = 0#32 ∧ State.reset.result = 0#32 ∧ State.reset.outL = 0#32 ∧ State.reset.outR = 0#32 ∧
    statusWord State.reset = 0#32

/-- R52, R403: a value the spec leaves unspecified at power-up is never observed: while INIT_DONE is 0, two states that
agree on the ports still agree after a step, and after the INIT that sets it they are the same state (if EXP gave INIT a
NaN, by log 7). -/
def Obligations.PowerUpValuesAreNeverObserved : Prop :=
  ∀ s s' t t' : State, s.initDone = false → s'.initDone = false → PortsAgree s s' →
    step s = .next t → step s' = .next t' →
    PortsAgree t t' ∧ t.initDone = t'.initDone ∧ (t.initDone = true → t = t')

/-- 40_system R152: what a valid INIT leaves in every element (the parameters are opaque), whatever was there before;
with any other rate it faults. -/
def Obligations.InitSetsEveryElement : Prop :=
  (∀ s : State, ¬ (le 0x3F800000#32 s.data = true ∧ lt s.data 0x7F800000#32 = true) →
    exec .init s = .next { s with err := true }) ∧
  ∀ s : State, le 0x3F800000#32 s.data = true → lt s.data 0x7F800000#32 = true →
    ∃ t, exec .init s = .next t ∧
      t.fs = s.data ∧
      t.dampA = sub (lit 1 1) (Config.exp (neg (div (mul 0x40C90FDB#32 (lit 7000 1)) s.data))) ∧
      (∀ i : Fin 14, t.params[i] = implementation.paramDefault i) ∧
      t.currentParam = 0 ∧ t.locked = false ∧ t.lockReference = 0#32 ∧ t.muted = false ∧
      t.phWob = 0#32 ∧ t.phSwp = 0#32 ∧ t.phRev = 0#32 ∧ t.outL = 0#32 ∧ t.outR = 0#32 ∧ t.initDone = true ∧
      (∀ c : Chan,
        (channel t c).phA = 0#32 ∧ (channel t c).phB = 0#32 ∧ (channel t c).dmp = 0#32 ∧
        (channel t c).phs = Config.phaserInit ∧ (channel t c).svf = Config.svfInit ∧
        (∀ i : Fin 8, (channel t c).cds[i] = 0#32 ∧ (channel t c).comb[i].wp = 0 ∧
          (channel t c).comb[i].len = combLength implementation c i 0 ∧
          ∀ n, bufRead (channel t c).comb[i].buf n = 0#32) ∧
        (∀ j : Fin 4, (channel t c).ap[j].wp = 0 ∧ (channel t c).ap[j].len = apLength implementation c j ∧
          ∀ n, bufRead (channel t c).ap[j].buf n = 0#32)) ∧
      t.data = s.data ∧ t.result = s.result ∧ t.err = s.err ∧ t.hostBus = s.hostBus ∧ t.readData = s.readData ∧
      t.drawCount = s.drawCount

/-- R153: INIT faults on a NaN, an infinity or a rate below 1.0, changing nothing but STATUS.ERR. -/
def Obligations.InitFaultsOnBadRate : Prop :=
  ∀ s : State, (isNaN s.data = true ∨ isInf s.data = true ∨ lt s.data 0x3F800000#32 = true) →
    exec .init s = .next { s with err := true }

/-- R154: only INIT changes FS, DAMP_A and INIT_DONE; only INIT and PROCESS change the datapath state. -/
def Obligations.OnlyInitChangesRateAndOnlyProcessTheDatapath : Prop :=
  ∀ (i : Instr) (s t : State), exec i s = .next t → i ≠ .init →
    t.fs = s.fs ∧ t.dampA = s.dampA ∧ t.initDone = s.initDone ∧
    (i ≠ .process → t.left = s.left ∧ t.right = s.right ∧ t.phWob = s.phWob ∧ t.phSwp = s.phSwp ∧
      t.phRev = s.phRev ∧ t.outL = s.outL ∧ t.outR = s.outR)

/-- R151: NOP is the zero word alone, leaves the state unchanged and is accepted before INIT. -/
def Obligations.NopLeavesTheState : Prop :=
  (∀ s : State, exec .nop s = .next s) ∧ (∀ w : Word, decode w = .ok .nop ↔ w = 0#32) ∧
    (∀ w : Word, w.toNat / 2 ^ 28 = 0 → w ≠ 0#32 → ∃ e, decode w = .error e)

/-! ## The Parameter Controller -/

/-- 41_parameter_controller R186, R187: the tick with a selection moves the selection modulo 14, locks, captures the
clamped knob and writes no slot; a mute event in it toggles `muted`; nothing else changes. -/
def Obligations.SelectionTickLocksAndWritesNoSlot : Prop :=
  ∀ (s : State) (delta : Int) (mute : Bool), s.initDone = true → delta ≠ 0 →
    ∃ p : Fin 14, (p.val : Int) = ((s.currentParam.val : Int) + delta) % 14 ∧
      exec (.updateControls delta mute) s = .next { s with
        currentParam := p, locked := true, lockReference := knobIn s.data, muted := (s.muted != mute) }

/-- R189: the knob tick while LOCKED unlocks exactly when the knob is more than 0.15 from the reference, and writes no
slot; a mute event toggles `muted` (R188). -/
def Obligations.LockedTickOnlyMayUnlock : Prop :=
  ∀ (s : State) (mute : Bool), s.initDone = true → s.locked = true →
    exec (.updateControls 0 mute) s = .next { s with
      locked := !gt (fabs (sub (knobIn s.data) s.lockReference)) 0x3E19999A#32, muted := (s.muted != mute) }

/-- R190, R181: the knob tick while UNLOCKED writes the forward mapping of the knob to the selected slot, every tick,
and no other slot; a mute event toggles `muted` (R188). -/
def Obligations.UnlockedTickWritesSelectedSlot : Prop :=
  ∀ (s : State) (mute : Bool), s.initDone = true → s.locked = false →
    ∃ p : Vector Word 14,
      p[s.currentParam] = (if s.currentParam = 0 then mul (lit 55 1) (Config.pow (lit 109 1) (knobIn s.data))
        else knobIn s.data) ∧
      (∀ j : Fin 14, j ≠ s.currentParam → p[j] = s.params[j]) ∧
      exec (.updateControls 0 mute) s = .next { s with params := p, muted := (s.muted != mute) }

/-- R185: the entry clamp: below 0, -0.0 and NaN give +0.0, above 1 gives 1.0, any other value is kept. -/
def Obligations.KnobEntryClamp : Prop :=
  ∀ k : Word,
    knobIn k = (if isNaN k = true ∨ lt k 0#32 = true ∨ k = 0x80000000#32 then 0#32
      else if lt 0x3F800000#32 k = true then 0x3F800000#32 else k) ∧
    inRange 0#32 0x3F800000#32 (knobIn k)

/-- R192, R113: the selection wraps exactly modulo 14, and a delta split over two ticks reaches the same slot. -/
def Obligations.SelectionWrapsModulo14 : Prop :=
  (∀ (i : Fin 14) (a : Int), ((selectSlot i a).val : Int) = ((i.val : Int) + a) % 14) ∧
  (∀ (i : Fin 14) (a b : Int), selectSlot (selectSlot i a) b = selectSlot i (a + b)) ∧
  selectSlot 0 (-1) = 13 ∧ selectSlot 13 1 = 0

/-- R191: while the knob stays within 0.15 of the reference any number of ticks leave the store and the lock alone; the
first tick beyond unlocks without writing, and the tick after it writes. -/
def Obligations.LockHoldsUntilKnobMoves : Prop :=
  (∀ (ks : List Word) (s : State), s.initDone = true → s.locked = true →
    (∀ k ∈ ks, gt (fabs (sub (knobIn k) s.lockReference)) 0x3E19999A#32 = false) →
    ∃ t, runTicks ks s = .next t ∧ t.locked = true ∧ t.params = s.params ∧ t.lockReference = s.lockReference ∧
      t.currentParam = s.currentParam) ∧
  (∀ (k k' : Word) (s : State), s.initDone = true → s.locked = true →
    gt (fabs (sub (knobIn k) s.lockReference)) 0x3E19999A#32 = true →
    runTicks [k] s = .next { s with data := k, locked := false } ∧
    ∃ t, runTicks [k, k'] s = .next t ∧
      t.params[s.currentParam] = forward implementation s.currentParam (knobIn k'))

/-- R33: which commands write the Parameter Store: INIT, RANDOMIZE, RESET, and UPDATE_CONTROLS, that one slot and only
while unlocked. -/
def Obligations.OnlyControlCommandsWriteTheStore : Prop :=
  ∀ (i : Instr) (s t : State), exec i s = .next t → t.params ≠ s.params →
    i = .init ∨ i = .randomize ∨ i = .reset ∨
      ∃ mute, i = .updateControls 0 mute ∧ s.locked = false ∧
        ∀ j : Fin 14, j ≠ s.currentParam → t.params[j] = s.params[j]

/-- R183, R197, R199: RANDOMIZE leaves every slot in its closed sub-range and changes nothing else of the CORE (the
model's count of oracle answers apart, log 6). -/
def Obligations.RandomizeStaysInSubRanges : Prop :=
  ∀ s : State, s.initDone = true →
    ∃ p : Vector Word 14, (∀ i : Fin 14, inRange (randomRange i).1 (randomRange i).2 p[i]) ∧
      exec .randomize s = .next { s with params := p, drawCount := s.drawCount + 14 }

/-- R200: RESET restores the defaults, clears `locked` and `muted`, and changes nothing else. -/
def Obligations.ResetRestoresDefaultsOnly : Prop :=
  decode 0x50000000#32 = .ok .reset ∧
  ∀ s : State, s.initDone = true →
    ∃ p : Vector Word 14, (∀ i : Fin 14, p[i] = implementation.paramDefault i) ∧
      exec .reset s = .next { s with params := p, locked := false, muted := false }

/-- R201, R202, R205: the getters of the mute flag, the selected index and the lock write RESULT and nothing else. -/
def Obligations.FlagAndIndexGetters : Prop :=
  decode 0x60000000#32 = .ok .isMuted ∧ decode 0x70000000#32 = .ok .getCurrentParamIndex ∧
  decode 0xA0000000#32 = .ok .isParamLocked ∧
  ∀ s : State, s.initDone = true →
    exec .isMuted s = .next { s with result := if s.muted then 0x00000001#32 else 0x00000000#32 } ∧
    exec .isParamLocked s = .next { s with result := if s.locked then 0x00000001#32 else 0x00000000#32 } ∧
    ∃ r : Word, r.toNat = s.currentParam.val ∧ r.toNat ≤ 13 ∧
      exec .getCurrentParamIndex s = .next { s with result := r }

/-- R203: GET_PARAM_NAME answers the index below 14 and the sentinel from there, for every index a word can hold. -/
def Obligations.NameGetterAnswersCodeOrSentinel : Prop :=
  (∀ index : Nat, index < 256 →
    decode (0x80000000#32 ||| BitVec.ofNat 32 (index * 65536)) = .ok (.getParamName index)) ∧
  ∀ (s : State) (index : Nat), s.initDone = true →
    exec (.getParamName index) s =
      .next { s with result := if index < 14 then BitVec.ofNat 32 index else 0xFFFFFFFF#32 }

/-- R204, R182: GET_PARAM_VALUE answers the normalized value below 14 and +0.0 from there. -/
def Obligations.ValueGetterAnswersNormalizedValue : Prop :=
  (∀ index : Nat, index < 256 →
    decode (0x90000000#32 ||| BitVec.ofNat 32 (index * 65536)) = .ok (.getParamValue index)) ∧
  ∀ s : State, s.initDone = true →
    exec (.getParamValue 0) s = .next { s with
      result := div (Config.log10 (div s.params[0] (lit 55 1))) (Config.log10 (lit 109 1)) } ∧
    (∀ i : Fin 14, i ≠ 0 → exec (.getParamValue i.val) s = .next { s with result := s.params[i] }) ∧
    (∀ index : Nat, 14 ≤ index → exec (.getParamValue index) s = .next { s with result := 0x00000000#32 })

/-! ## PROCESS -/

/-- 40_system R156: a muted frame writes +0.0 to both outputs and changes no other state. -/
def Obligations.MutedFrameIsSilentAndFrozen : Prop :=
  ∀ s : State, s.initDone = true → s.muted = true →
    exec .process s = .next { s with outL := 0x00000000#32, outR := 0x00000000#32 }

/-- R161, R33: PROCESS completes after INIT and writes the outputs and the datapath state only. -/
def Obligations.ProcessWritesOutputsAndDatapathOnly : Prop :=
  ∀ s : State, s.initDone = true →
    ∃ t, exec .process s = .next t ∧
      t = { s with outL := t.outL, outR := t.outR, phWob := t.phWob, phSwp := t.phSwp, phRev := t.phRev,
                   left := t.left, right := t.right }

/-- 42_voice_generator R243: an unmuted PROCESS advances each of the four accumulators once by R239 at its channel's
frequency, a muted one none; no other command changes them but INIT, which sets them to +0.0. -/
def Obligations.FrameAdvancesEachOscillatorOnce : Prop :=
  (∀ s : State, s.initDone = true →
    ∃ t, exec .process s = .next t ∧
      (s.muted = true → ∀ c : Chan, (channel t c).phA = (channel s c).phA ∧ (channel t c).phB = (channel s c).phB) ∧
      (s.muted = false → ∀ c : Chan,
        let m := modulate implementation s.fs (snapshot s.params) s.phWob s.phSwp
        let f := match c with | .left => m.fLeft | .right => m.fRight
        (channel t c).phA = frac (add (channel s c).phA (div f s.fs)) ∧
        (channel t c).phB = frac (add (channel s c).phB (div f s.fs)))) ∧
  (∀ (i : Instr) (s t : State), exec i s = .next t → i ≠ .process →
    (∀ c : Chan, (channel t c).phA = (channel s c).phA ∧ (channel t c).phB = (channel s c).phB) ∨
    (i = .init ∧ ∀ c : Chan, (channel t c).phA = 0#32 ∧ (channel t c).phB = 0#32))

/-- 43_modulation R262, R263, R272: both LFO phases advance on every unmuted frame, at their rates, whatever the
amounts. -/
def Obligations.FrameAdvancesBothLfos : Prop :=
  ∀ s : State, s.initDone = true → s.muted = false →
    ∃ t, exec .process s = .next t ∧
      t.phWob = frac (add s.phWob (div (add (lit 1 10) (mul (lit 149 10) s.params[11])) s.fs)) ∧
      t.phSwp = frac (add s.phSwp (div (add (lit 2 100) (mul (lit 48 100) s.params[13])) s.fs))

/-- 44_effects_chain R290, R291, R311 to R313: with drive, phaser and reverb below their thresholds and the filter in
its dead-zone, the output is the limited, scaled damping of the voice, and no bypassed stage's state changes. -/
def Obligations.AllBypassedFrame : Prop :=
  ∀ s : State, s.initDone = true → s.muted = false →
    lt s.params[4] 0x3C23D70A#32 = true → lt s.params[5] 0x3C23D70A#32 = true →
    inRange 0x3EE66666#32 0x3F0CCCCD#32 s.params[3] → lt s.params[7] 0x3C23D70A#32 = true →
    ∃ t, exec .process s = .next t ∧ t.phRev = s.phRev ∧
      t.outL = limit (mul t.left.dmp s.params[2]) ∧ t.outR = limit (mul t.right.dmp s.params[2]) ∧
      ∀ c : Chan,
        let m := modulate implementation s.fs (snapshot s.params) s.phWob s.phSwp
        let f := match c with | .left => m.fLeft | .right => m.fRight
        let v := (voice implementation s.fs s.params[1] f (channel s c)).1
        (channel t c).dmp = add (channel s c).dmp (mul s.dampA (sub v (channel s c).dmp)) ∧
        (channel t c).phs = (channel s c).phs ∧ (channel t c).svf = (channel s c).svf ∧
        (channel t c).comb = (channel s c).comb ∧ (channel t c).cds = (channel s c).cds ∧
        (channel t c).ap = (channel s c).ap

/-- 40_system R158, 44_effects_chain R292, R295, R300, R303, R306, R311: on an unmuted frame drive, phaser, filter and
damping act on each channel's voice in that order, each with its own state. -/
def Obligations.ChainStagesActInOrder : Prop :=
  ∀ s : State, s.initDone = true → s.muted = false →
    ∃ t, exec .process s = .next t ∧
      ∀ c : Chan,
        let m := modulate implementation s.fs (snapshot s.params) s.phWob s.phSwp
        let f := match c with | .left => m.fLeft | .right => m.fRight
        let v := (voice implementation s.fs s.params[1] f (channel s c)).1
        let d := s.params[4]
        let p := s.params[5]
        let g := s.params[3]
        let x1 := if lt d 0x3C23D70A#32 = true then v
          else add (mul v (sub (lit 1 1) d)) (mul (Config.driveShaper (add (lit 1 10) (mul (lit 8 10) d)) v) d)
        let rate := match c with
          | .left => add (lit 5 10) (mul (lit 2 1) p)
          | .right => add (lit 4 10) (mul (lit 21 10) p)
        let r2 := if lt p 0x3C23D70A#32 = true then (x1, (channel s c).phs)
          else Config.phaserStep s.fs (channel s c).phs x1 p rate
        let u := div (sub g (lit 55 100)) (lit 45 100)
        let r3 := if lt g 0x3EE66666#32 = true then
            Config.svfStep s.fs (channel s c).svf r2.1 (add (lit 100 1) (mul (div g (lit 45 100)) (lit 10000 1)))
              0x3DCCCCCD#32 .lp
          else if lt 0x3F0CCCCD#32 g = true then
            Config.svfStep s.fs (channel s c).svf r2.1 (add (lit 50 1) (mul (mul u u) (lit 8000 1))) 0x3DCCCCCD#32 .hp
          else (r2.1, (channel s c).svf)
        (channel t c).phs = r2.2 ∧ (channel t c).svf = r3.2 ∧
        (channel t c).dmp = add (channel s c).dmp (mul s.dampA (sub r3.1 (channel s c).dmp))

/-- 45_reverb R345, R312: a bypassed reverb returns its inputs and writes no state; a frame then keeps all reverb state,
and an unmuted one puts out the limited, scaled output of the damping stage. -/
def Obligations.BypassedReverbIsIdentityAndFrozen : Prop :=
  (∀ (fs : Word) (S : Snapshot) (ul ur ph : Word) (l r : ChannelState), lt S.rvAmt 0x3C23D70A#32 = true →
    reverb implementation fs S ul ur ph l r =
      { wLeft := ul, wRight := ur, phRev := ph, left := l, right := r }) ∧
  (∀ s : State, s.initDone = true → lt s.params[7] 0x3C23D70A#32 = true →
    ∃ t, exec .process s = .next t ∧ t.phRev = s.phRev ∧
      (s.muted = false →
        t.outL = limit (mul t.left.dmp s.params[2]) ∧ t.outR = limit (mul t.right.dmp s.params[2])) ∧
      ∀ c : Chan, (channel t c).comb = (channel s c).comb ∧ (channel t c).cds = (channel s c).cds ∧
        (channel t c).ap = (channel s c).ap)

/-- R349, R347, R346, R348: an unmuted frame with the reverb on: each comb line reads at its modulated length, damps
the value read, stores input + damped * feedback at its write index and no other sample, and advances the index. The
input of the combs is the damping stage's output. -/
def Obligations.CombLinesStepOnce : Prop :=
  ∀ s : State, s.initDone = true → s.muted = false → lt s.params[7] 0x3C23D70A#32 = false → storageOk s →
    ∃ t, exec .process s = .next t ∧
      t.phRev = frac (add s.phRev (div (lit 3 10) s.fs)) ∧
      ∀ (c : Chan) (i : Fin 8),
        let off := toInt (floor (mul (mul (Config.sin (mul twoPi s.phRev)) (lit 15 1)) s.params[7]))
        let len := combLength implementation c i off
        let line := (channel s c).comb[i]
        let line' := (channel t c).comb[i]
        let out := memRead 1750 { line with len := len }
        let damping := mul (sub (lit 1 1) s.params[9]) (lit 4 10)
        let feedback := add (lit 7 10) (mul (lit 28 100) s.params[8])
        line'.len = len ∧ line'.wp = (line.wp + 1) % 1750 ∧
        (channel t c).cds[i] = add (mul out (sub (lit 1 1) damping)) (mul (channel s c).cds[i] damping) ∧
        bufRead line'.buf line.wp = add (channel t c).dmp (mul (channel t c).cds[i] feedback) ∧
        ∀ n, n ≠ line.wp → bufRead line'.buf n = bufRead line.buf n

/-- R350 to R352, R356, R312: an unmuted frame with the reverb on: the combs' outputs are summed in line order, the sum
goes through the four all-pass lines in series, each stores input + read * 0.5 at its write index and no other sample,
advances the index, re-sets its length to the tuning and passes on read - stored * 0.5; the output is the limited,
scaled mix of the damping stage's output with the last stage's. -/
def Obligations.AllPassLinesStepOnce : Prop :=
  ∀ s : State, s.initDone = true → s.muted = false → lt s.params[7] 0x3C23D70A#32 = false → storageOk s →
    ∃ t, exec .process s = .next t ∧
      ∀ c : Chan,
        let off := toInt (floor (mul (mul (Config.sin (mul twoPi s.phRev)) (lit 15 1)) s.params[7]))
        let o := fun i : Fin 8 => memRead 1750 { (channel s c).comb[i] with len := combLength implementation c i off }
        let x0 := add (add (add (add (add (add (add (o 0) (o 1)) (o 2)) (o 3)) (o 4)) (o 5)) (o 6)) (o 7)
        let r := fun j : Fin 4 => memRead 600 (channel s c).ap[j]
        let stored := fun (j : Fin 4) (x : Word) => add x (mul (r j) (lit 5 10))
        let passed := fun (j : Fin 4) (x : Word) => sub (r j) (mul (stored j x) (lit 5 10))
        let x1 := passed 0 x0
        let x2 := passed 1 x1
        let x3 := passed 2 x2
        let wet := passed 3 x3
        let u := (channel t c).dmp
        let w := add (mul u (sub (lit 1 1) (mul s.params[7] (lit 5 10))))
          (mul (mul wet s.params[7]) (lit 15 1000))
        (∀ j : Fin 4,
          let line := (channel s c).ap[j]
          let line' := (channel t c).ap[j]
          line'.len = Config.apTuningLess1 j + 1 + (match c with | .left => 0 | .right => 23) ∧
          line'.wp = (line.wp + 1) % 600 ∧
          bufRead line'.buf line.wp =
            stored j (match j with | 0 => x0 | 1 => x1 | 2 => x2 | 3 => x3) ∧
          ∀ n, n ≠ line.wp → bufRead line'.buf n = bufRead line.buf n) ∧
        (match c with | .left => t.outL | .right => t.outR) = limit (mul w s.params[2])

/-- 40_system R159: a channel's output and state do not depend on the other channel's state. Two frames are compared, so
where a frame meets a NaN this rests on the model's choice that equal operations give equal NaNs (log 7). -/
def Obligations.ChannelsAreIndependent : Prop :=
  ∀ (s t t' : State) (ch : ChannelState), exec .process s = .next t →
    (exec .process { s with right := ch } = .next t' →
      t'.left = t.left ∧ t'.outL = t.outL ∧ t'.phWob = t.phWob ∧ t'.phSwp = t.phSwp ∧ t'.phRev = t.phRev) ∧
    (exec .process { s with left := ch } = .next t' →
      t'.right = t.right ∧ t'.outR = t.outR ∧ t'.phWob = t.phWob ∧ t'.phSwp = t.phSwp ∧ t'.phRev = t.phRev)

/-! ## Datapath functions -/

/-- 43_modulation R269: both channel frequencies are in [20, 12000] Hz, whatever the snapshot and the phases; a
frequency already there is kept. -/
def Obligations.ChannelFrequenciesAreClamped : Prop :=
  (∀ (fs : Word) (S : Snapshot) (pw ps : Word),
    inRange 0x41A00000#32 0x463B8000#32 (modulate implementation fs S pw ps).fLeft ∧
    inRange 0x41A00000#32 0x463B8000#32 (modulate implementation fs S pw ps).fRight) ∧
  (∀ f : Word, inRange 0x41A00000#32 0x463B8000#32 f → clampFreq f = f)

/-- R265 to R270, R273: the two channel frequencies are the pitch formula, detune down on the left and up on the right;
with no detune both channels run at one frequency. -/
def Obligations.NoDetuneGivesEqualFrequencies : Prop :=
  ∀ (fs : Word) (S : Snapshot) (pw ps : Word),
    (let wob := Config.sin (mul twoPi pw)
     let swp := sub (lit 1 1) (fabs (sub (fmod (mul (lit 4 1) ps) (lit 4 1)) (lit 2 1)))
     let wobble := mul (mul (mul wob S.freq) (lit 2 10)) S.wobAmt
     let base := mul (add S.freq wobble) (Config.exp2 (mul swp S.swpAmt))
     let detune := mul (mul base (lit 5 100)) S.detune
     (modulate implementation fs S pw ps).fLeft = clamp (sub base detune) (lit 20 1) (lit 12000 1) ∧
     (modulate implementation fs S pw ps).fRight = clamp (add base detune) (lit 20 1) (lit 12000 1)) ∧
    (S.detune = 0x00000000#32 →
      (modulate implementation fs S pw ps).fLeft = (modulate implementation fs S pw ps).fRight)

/-- 42_voice_generator R240: a phase in [0, 1) stays in [0, 1) at any frequency the machine uses and any rate INIT
accepts. -/
def Obligations.PhaseStaysInUnitInterval : Prop :=
  ∀ fs f ph : Word, validRate fs = true → inRange 0x00000000#32 0x463B8000#32 f → phaseOk ph →
    phaseOk (advancePhase fs f ph)

/-- R230 to R235, R245: the waveform of each index and its formula; triangle, saw and square lie in [-1, 1] on every
phase. -/
def Obligations.ArithmeticWaveformsStayInRange : Prop :=
  (∀ p : Word,
    baseWave implementation (waveformOf 0) p = Config.sin (mul twoPi p) ∧
    baseWave implementation (waveformOf 1) p =
      sub (lit 1 1) (fabs (sub (fmod (mul (lit 4 1) p) (lit 4 1)) (lit 2 1))) ∧
    baseWave implementation (waveformOf 2) p = mul (lit 2 1) (sub p (round p)) ∧
    baseWave implementation (waveformOf 3) p = (if lt p 0x3F000000#32 = true then 0x3F4CCCCD#32 else 0xBF4CCCCD#32)) ∧
  ∀ (p : Word) (i : Nat), phaseOk p → 1 ≤ i → i ≤ 3 →
    inRange 0xBF800000#32 0x3F800000#32 (baseWave implementation (waveformOf i) p)

/-- R236: the morph indexes and the blend position are those of the formula, adjacent waveforms and in [0, 1) for every
waveform value in [0, 1]; R238: the four integer points have blend position 0. -/
def Obligations.MorphIndexesAreAdjacent : Prop :=
  (∀ w : Word,
    (morphIndex w).ia = (Min.min (Max.max (toInt (floor (mul w (lit 3 1)))) 0) 3).toNat ∧
    (morphIndex w).fr =
      (if (morphIndex w).ia = 3 then 0x00000000#32 else sub (mul w (lit 3 1)) (toF (morphIndex w).ia))) ∧
  (∀ w : Word, w.toNat ≤ 0x3F800000 →
    (morphIndex w).ia ≤ 3 ∧ (morphIndex w).ib = (if (morphIndex w).ia = 3 then 3 else (morphIndex w).ia + 1) ∧
    phaseOk (morphIndex w).fr) ∧
  morphIndex 0x00000000#32 = { ia := 0, ib := 1, fr := 0#32 } ∧
  morphIndex 0x3EAAAAAB#32 = { ia := 1, ib := 2, fr := 0#32 } ∧
  morphIndex 0x3F2AAAAB#32 = { ia := 2, ib := 3, fr := 0#32 } ∧
  morphIndex 0x3F800000#32 = { ia := 3, ib := 3, fr := 0#32 }

/-- R237, R244: the voice is the blend of oscillator A's waveform at ph_A and oscillator B's at ph_B, sampled before the
phases advance; R238: at blend position 0 the blend is exactly the first sample, for finite samples (a sample of -0.0,
which no base waveform of a phase gives, becomes +0.0 or stays). -/
def Obligations.MorphAtIntegerPointIsExact : Prop :=
  (∀ (fs w f : Word) (ch : ChannelState),
    let m := morphIndex w
    let a := baseWave implementation (waveformOf m.ia) ch.phA
    let b := baseWave implementation (waveformOf m.ib) ch.phB
    (voice implementation fs w f ch).1 = add (mul a (sub (lit 1 1) m.fr)) (mul b m.fr) ∧
    (m.fr = 0x00000000#32 → isFinite a = true → isFinite b = true → a ≠ 0x80000000#32 →
      (voice implementation fs w f ch).1 = a)) ∧
  ∀ a b : Word, isFinite a = true → isFinite b = true → a ≠ 0x80000000#32 → morphBlend a b 0x00000000#32 = a

/-- 44_effects_chain R301: every filter value falls in exactly one branch; the dead-zone is closed at both ends, takes
a NaN and passes the sample. -/
def Obligations.FilterBranchesPartition : Prop :=
  (∀ v : Word,
    (filterBranch v = none ↔ isNaN v = true ∨ inRange 0x3EE66666#32 0x3F0CCCCD#32 v) ∧
    ((∃ fc, filterBranch v = some (fc, .lp)) ↔ lt v 0x3EE66666#32 = true) ∧
    ((∃ fc, filterBranch v = some (fc, .hp)) ↔ lt 0x3F0CCCCD#32 v = true)) ∧
  ∀ (cfg : Params) (fs x : Word) (S : Snapshot) (ch : ChannelState),
    isNaN S.filter = true ∨ inRange 0x3EE66666#32 0x3F0CCCCD#32 S.filter → filterStage cfg fs S x ch = (x, ch)

/-- R313 to R315: the limiter is odd, the identity on [-0.9, 0.9], the formula above 0.9, and returns a NaN and an
infinity. -/
def Obligations.LimiterShape : Prop :=
  (∀ x : Word, limit (neg x) = neg (limit x)) ∧
  (∀ x : Word, inRange 0xBF666666#32 0x3F666666#32 x → limit x = x) ∧
  (∀ x : Word, lt 0x3F666666#32 x = true →
    limit x = add 0x3F666666#32 (mul (sub x 0x3F666666#32) 0x3DCCCCCD#32)) ∧
  (∀ x : Word, isNaN x = true → limit x = x) ∧ limit 0x7F800000#32 = 0x7F800000#32

/-- 45_reverb R348: with a sine in [-1, 1] and an amount in [0, 1] the comb offset is in [-15, 15]. -/
def Obligations.CombOffsetIsAtMost15 : Prop :=
  ∀ (cfg : Params) (S : Snapshot) (ph : Word), (∀ x, inRange 0xBF800000#32 0x3F800000#32 (cfg.sin x)) →
    inRange 0x00000000#32 0x3F800000#32 S.rvAmt → -15 ≤ modOffset cfg S ph ∧ modOffset cfg S ph ≤ 15

/-- R347: the comb length of a channel and line, in integers. -/
def Obligations.CombLengthFormula : Prop :=
  ∀ (c : Chan) (i : Fin 8) (off : Int),
    (combLength implementation c i off : Int) =
      Min.min (Max.max (((Config.combTuningLess1 i : Nat) : Int) + 1 + (if c = .right then 23 else 0) +
        (if i.val % 2 = 0 then 1 else -1) * (if c = .left then 1 else -1) * off) 10) 1740

/-- R344: after any writes since INIT, whatever the lengths in between, a read at length `d` gives the `d`-th most
recent write, and +0.0 when there are fewer than `d`. -/
def Obligations.DelayLineDelaysByItsLength : Prop :=
  ∀ (cap d len0 : Nat) (l : List (Nat × Word)), 1 ≤ d → d ≤ cap →
    memRead cap (setLength d (writeAll cap l (freshLine len0))) =
      if d ≤ l.length then (l.getD (l.length - d) (0, 0#32)).2 else 0#32

/-! ## binary32 -/

/-- 00_scope R13: the four operators give a nearest binary32 to the exact result, the even one of two equally near and
the infinity of its sign from the overflow threshold on (`RoundsTo`); the sign of a product, of a quotient and of a zero
sum; the results with an infinite, a zero or a NaN operand, as IEEE 754 gives them. Values are in units of 2^-149
(`scaled`), so a product is over `unit` and a quotient over the divisor. -/
def Obligations.OperatorsRoundToNearestEven : Prop :=
  (∀ a b : Word, isFinite a = true → isFinite b = true →
    RoundsTo (add a b) (scaled a + scaled b) 1 ∧
    RoundsTo (sub a b) (scaled a - scaled b) 1 ∧
    RoundsTo (mul a b) (scaled a * scaled b) (unit : Int) ∧
    (isZero b = false → RoundsTo (div a b) (scaled a * (unit : Int)) (scaled b)) ∧
    sign (mul a b) = (sign a != sign b) ∧
    (isZero b = false → sign (div a b) = (sign a != sign b)) ∧
    (scaled a + scaled b = 0 → add a b = if sign a && sign b then 0x80000000#32 else 0x00000000#32) ∧
    (scaled a - scaled b = 0 → sub a b = if sign a && !sign b then 0x80000000#32 else 0x00000000#32) ∧
    (isZero b = true → isZero a = false → div a b = infinity (sign a != sign b)) ∧
    (isZero b = true → isZero a = true → isNaN (div a b) = true)) ∧
  (∀ a b : Word, isInf a = true → isFinite b = true →
    add a b = a ∧ add b a = a ∧ sub a b = a ∧ sub b a = neg a ∧
    (isZero b = false → mul a b = infinity (sign a != sign b) ∧ mul b a = infinity (sign a != sign b)) ∧
    (isZero b = true → isNaN (mul a b) = true ∧ isNaN (mul b a) = true) ∧
    div a b = infinity (sign a != sign b) ∧
    div b a = if sign a != sign b then 0x80000000#32 else 0x00000000#32) ∧
  (∀ a b : Word, isInf a = true → isInf b = true →
    mul a b = infinity (sign a != sign b) ∧ isNaN (div a b) = true ∧
    (a = b → add a b = a ∧ isNaN (sub a b) = true) ∧ (a ≠ b → isNaN (add a b) = true ∧ sub a b = a)) ∧
  ∀ a b : Word, isNaN a = true ∨ isNaN b = true →
    isNaN (add a b) = true ∧ isNaN (sub a b) = true ∧ isNaN (mul a b) = true ∧ isNaN (div a b) = true

/-- R15: the comparisons are the order of the values, and false with a NaN operand. -/
def Obligations.ComparisonsFollowValues : Prop :=
  (∀ a b : Word, isFinite a = true → isFinite b = true →
    (lt a b = true ↔ scaled a < scaled b) ∧ (le a b = true ↔ scaled a ≤ scaled b)) ∧
  (∀ a b : Word, isNaN a = true ∨ isNaN b = true → lt a b = false ∧ le a b = false)

/-- R15: `floor` of a finite value is the largest integral value not above it. -/
def Obligations.FloorIsLargestIntegralBelow : Prop :=
  ∀ x : Word, isFinite x = true →
    isFinite (floor x) = true ∧ scaled (floor x) % (unit : Int) = 0 ∧ scaled (floor x) ≤ scaled x ∧
    scaled x < scaled (floor x) + (unit : Int)

/-- R15: `frac` of a finite value that is not negative is its fractional part, exactly. -/
def Obligations.FracIsExactOnNonNegatives : Prop :=
  ∀ x : Word, isFinite x = true → sign x = false → scaled (frac x) = scaled x % (unit : Int)

/-! ## Parameters and invariants -/

/-- R9, D16: the parameters of both records are in the ranges the spec gives them. -/
def Obligations.ParametersAreLegal : Prop := paramsLegal implementation ∧ paramsLegal defaultConfiguration

/-- The invariant holds at power-up (its clauses on unspecified elements rest on log 1). -/
def Obligations.InvariantHoldsAtReset : Prop := Inv State.reset

/-- R31, R42, R43, R47 to R49, R153, R242: every step keeps the invariant: delay-line storage and lengths, the
oscillators' lockstep, the rate, the slots' ranges and the phases' range. -/
def Obligations.StepKeepsTheInvariant : Prop := ∀ s t : State, Inv s → step s = .next t → Inv t
end

