-- ==== Sys2Proof/Laws/Memory.lean ====
section
/-! SUPPORT. The laws of delay-line memory: the canonical form is kept by every operation, a read after a write gives the
value written, a write leaves every other sample alone, and equal contents are equal data. -/

namespace Sys2Proof.Machine

/-- The canonical form in list terms: no listed sample is the blank and the indexes rise. -/
theorem wf_iff (m : Memory) :
    Memory.wf m = true ↔ (∀ c ∈ m, c.2 ≠ Memory.blank) ∧ m.Pairwise (fun a b => a.1 < b.1) := by
  induction m with
  | nil => simp [Memory.wf]
  | cons c rest ih =>
    cases rest with
    | nil => simp [Memory.wf]
    | cons d rest =>
      simp only [Memory.wf, Bool.and_eq_true, bne_iff_ne, decide_eq_true_eq, ih, List.mem_cons,
        List.pairwise_cons, forall_eq_or_imp]
      constructor
      · rintro ⟨⟨h1, h2⟩, ⟨h3, h4⟩, h5, h6⟩
        exact ⟨⟨h1, h3, h4⟩, ⟨h2, fun a ha => h2.trans (h5 a ha)⟩, h5, h6⟩
      · rintro ⟨⟨h1, h3, h4⟩, ⟨h2, _⟩, h5, h6⟩
        exact ⟨⟨h1, h2⟩, ⟨h3, h4⟩, h5, h6⟩

theorem wf_tail {c : Nat × Word} {m : Memory} (h : Memory.wf (c :: m) = true) : Memory.wf m = true := by
  rw [wf_iff] at h ⊢
  exact ⟨fun d hd => h.1 d (List.mem_cons_of_mem _ hd), (List.pairwise_cons.mp h.2).2⟩

@[simp] theorem bufRead_nil (i : Nat) : bufRead [] i = Memory.blank := rfl

/-- An index that is not listed reads as the blank. -/
theorem bufRead_unlisted {m : Memory} {i : Nat} (h : ∀ c ∈ m, c.1 ≠ i) : bufRead m i = Memory.blank := by
  induction m with
  | nil => rfl
  | cons c rest ih =>
    have hc := h c (List.mem_cons_self ..)
    simp only [bufRead, hc, if_false]
    exact ih fun d hd => h d (List.mem_cons_of_mem _ hd)

/-- The cells a write leaves: those of the buffer, and the one written. -/
theorem mem_bufWrite {m : Memory} {i : Nat} {v : Word} {c : Nat × Word} (h : c ∈ bufWrite i v m) :
    c ∈ m ∨ (c = (i, v) ∧ v ≠ Memory.blank) := by
  induction m with
  | nil =>
    simp only [bufWrite] at h
    split at h
    · cases h
    · rename_i hv
      exact .inr ⟨List.mem_singleton.mp h, hv⟩
  | cons d rest ih =>
    simp only [bufWrite] at h
    split at h
    · split at h
      · exact .inl h
      · rename_i hv
        rcases List.mem_cons.mp h with h | h
        · exact .inr ⟨h, hv⟩
        · exact .inl h
    · split at h
      · split at h
        · exact .inl (List.mem_cons_of_mem _ h)
        · rename_i hv
          rcases List.mem_cons.mp h with h | h
          · exact .inr ⟨h, hv⟩
          · exact .inl (List.mem_cons_of_mem _ h)
      · rcases List.mem_cons.mp h with h | h
        · exact .inl (h ▸ List.mem_cons_self ..)
        · rcases ih h with h | h
          · exact .inl (List.mem_cons_of_mem _ h)
          · exact .inr h

/-- A write keeps the canonical form. -/
theorem bufWrite_wf {m : Memory} (i : Nat) (v : Word) (h : Memory.wf m = true) :
    Memory.wf (bufWrite i v m) = true := by
  rw [wf_iff] at h ⊢
  refine ⟨fun c hc => ?_, ?_⟩
  · rcases mem_bufWrite hc with hc | ⟨rfl, hv⟩
    · exact h.1 c hc
    · exact hv
  · obtain ⟨-, h⟩ := h
    induction m with
    | nil => unfold bufWrite; split <;> simp
    | cons d rest ih =>
      obtain ⟨hd, hr⟩ := List.pairwise_cons.mp h
      unfold bufWrite
      split
      · rename_i hi
        split
        · exact h
        · refine List.pairwise_cons.mpr ⟨fun a ha => ?_, h⟩
          rcases List.mem_cons.mp ha with rfl | ha
          · exact hi
          · exact Nat.lt_trans hi (hd a ha)
      · split
        · rename_i hi
          split
          · exact hr
          · exact List.pairwise_cons.mpr ⟨fun a ha => by simpa [hi] using hd a ha, hr⟩
        · refine List.pairwise_cons.mpr ⟨fun a ha => ?_, ih hr⟩
          rcases mem_bufWrite ha with ha | ⟨rfl, -⟩
          · exact hd a ha
          · simp only; omega

/-- A read after a write to the same index gives the value written. -/
theorem bufRead_bufWrite_same {m : Memory} (i : Nat) (v : Word) (h : Memory.wf m = true) :
    bufRead (bufWrite i v m) i = v := by
  rw [wf_iff] at h
  obtain ⟨-, h⟩ := h
  induction m with
  | nil =>
    unfold bufWrite
    split
    · rename_i hv; simp [hv]
    · simp [bufRead]
  | cons d rest ih =>
    obtain ⟨hd, hr⟩ := List.pairwise_cons.mp h
    unfold bufWrite
    split
    · rename_i hi
      split
      · rename_i hv
        rw [hv]
        refine bufRead_unlisted fun a ha => ?_
        rcases List.mem_cons.mp ha with rfl | ha
        · omega
        · have := hd a ha; omega
      · simp [bufRead]
    · split
      · rename_i hi
        split
        · rename_i hv
          rw [hv]
          exact bufRead_unlisted fun a ha => by have := hd a ha; omega
        · simp [bufRead]
      · have : d.1 ≠ i := by omega
        simp only [bufRead, this, if_false]
        exact ih hr

/-- A write leaves every other sample alone, whatever the buffer. -/
theorem bufRead_bufWrite_other (m : Memory) {i j : Nat} (v : Word) (hij : i ≠ j) :
    bufRead (bufWrite i v m) j = bufRead m j := by
  induction m with
  | nil => unfold bufWrite; split <;> simp [bufRead, hij]
  | cons d rest ih =>
    unfold bufWrite
    split
    · split <;> simp [bufRead, hij]
    · split
      · rename_i hi
        have : d.1 ≠ j := by omega
        split <;> simp [bufRead, hij, this]
      · simp only [bufRead, ih]

/-- Two canonical buffers with the same samples are the same list. -/
theorem wf_ext {m n : Memory} (hm : Memory.wf m = true) (hn : Memory.wf n = true)
    (h : ∀ i, bufRead m i = bufRead n i) : m = n := by
  induction m generalizing n with
  | nil =>
    cases n with
    | nil => rfl
    | cons c rest =>
      have hc := ((wf_iff _).mp hn).1 c (List.mem_cons_self ..)
      have := h c.1
      simp [bufRead] at this
      exact absurd this.symm hc
  | cons c rest ih =>
    obtain ⟨hb, hp⟩ := (wf_iff _).mp hm
    obtain ⟨hcr, -⟩ := List.pairwise_cons.mp hp
    cases n with
    | nil =>
      have := h c.1
      simp [bufRead] at this
      exact absurd this (hb c (List.mem_cons_self ..))
    | cons d rest' =>
      obtain ⟨hb', hp'⟩ := (wf_iff _).mp hn
      obtain ⟨hdr, -⟩ := List.pairwise_cons.mp hp'
      have key : c.1 = d.1 := by
        by_contra hne
        rcases Nat.lt_or_gt_of_ne hne with hlt | hlt
        · have h1 := h c.1
          rw [show bufRead (d :: rest') c.1 = Memory.blank from bufRead_unlisted fun a ha => by
            rcases List.mem_cons.mp ha with rfl | ha
            · omega
            · have := hdr a ha; omega] at h1
          simp [bufRead] at h1
          exact hb c (List.mem_cons_self ..) h1
        · have h1 := h d.1
          rw [show bufRead (c :: rest) d.1 = Memory.blank from bufRead_unlisted fun a ha => by
            rcases List.mem_cons.mp ha with rfl | ha
            · omega
            · have := hcr a ha; omega] at h1
          simp [bufRead] at h1
          exact hb' d (List.mem_cons_self ..) h1.symm
      have hv : c.2 = d.2 := by
        have := h c.1
        simpa [bufRead, key] using this
      have hrest : rest = rest' := by
        refine ih (wf_tail hm) (wf_tail hn) fun i => ?_
        by_cases hi : c.1 = i
        · rw [bufRead_unlisted fun a ha => by have := hcr a ha; omega,
            bufRead_unlisted fun a ha => by have := hdr a ha; omega]
        · have := h i
          have hd : d.1 ≠ i := by omega
          simpa [bufRead, hi, hd] using this
      rw [hrest, Prod.ext key hv]

/-! ## Delay lines -/

/-- The primitives keep a line's storage in order. -/
theorem memWrite_lineOk {cap : Nat} {l : DelayLine} (v : Word) (h : lineOk cap l) : lineOk cap (memWrite cap v l) := by
  obtain ⟨hw, hm, hc⟩ := h
  refine ⟨Nat.mod_lt _ (by omega), bufWrite_wf _ _ hm, fun c hc' => ?_⟩
  rcases mem_bufWrite hc' with hc' | ⟨rfl, -⟩
  · exact hc c hc'
  · exact hw

theorem setLength_lineOk {cap : Nat} {l : DelayLine} (d : Nat) (h : lineOk cap l) : lineOk cap (setLength d l) := h

theorem freshLine_lineOk {cap : Nat} (d : Nat) (h : 0 < cap) : lineOk cap (freshLine d) :=
  ⟨h, rfl, by simp [freshLine]⟩

/-- The read tap lies inside the buffer. -/
theorem readTap_lt {cap : Nat} (l : DelayLine) (h : 0 < cap) : readTap cap l < cap := by
  have h1 := Int.emod_nonneg ((l.wp : Int) - l.len) (b := (cap : Int)) (by omega)
  have h2 := Int.emod_lt_of_pos ((l.wp : Int) - l.len) (b := (cap : Int)) (by omega)
  unfold readTap
  omega

end Sys2Proof.Machine
end

