-- ==== Sys2Proof/Laws/State.lean ====
section
/-! SUPPORT. What each update of the state does to each field, one lemma per field, all true by unfolding the update. -/

namespace Sys2Proof.Machine

/-! ## raiseFault -/

@[simp] theorem raiseFault_data (r : FaultReason) (s : State) : (raiseFault r s).data = s.data := rfl

@[simp] theorem raiseFault_result (r : FaultReason) (s : State) : (raiseFault r s).result = s.result := rfl

@[simp] theorem raiseFault_outL (r : FaultReason) (s : State) : (raiseFault r s).outL = s.outL := rfl

@[simp] theorem raiseFault_outR (r : FaultReason) (s : State) : (raiseFault r s).outR = s.outR := rfl

@[simp] theorem raiseFault_initDone (r : FaultReason) (s : State) : (raiseFault r s).initDone = s.initDone := rfl

@[simp] theorem raiseFault_err (r : FaultReason) (s : State) : (raiseFault r s).err = true := rfl

@[simp] theorem raiseFault_fs (r : FaultReason) (s : State) : (raiseFault r s).fs = s.fs := rfl

@[simp] theorem raiseFault_dampA (r : FaultReason) (s : State) : (raiseFault r s).dampA = s.dampA := rfl

@[simp] theorem raiseFault_params (r : FaultReason) (s : State) : (raiseFault r s).params = s.params := rfl

@[simp] theorem raiseFault_currentParam (r : FaultReason) (s : State) : (raiseFault r s).currentParam = s.currentParam := rfl

@[simp] theorem raiseFault_locked (r : FaultReason) (s : State) : (raiseFault r s).locked = s.locked := rfl

@[simp] theorem raiseFault_lockReference (r : FaultReason) (s : State) : (raiseFault r s).lockReference = s.lockReference := rfl

@[simp] theorem raiseFault_muted (r : FaultReason) (s : State) : (raiseFault r s).muted = s.muted := rfl

@[simp] theorem raiseFault_phWob (r : FaultReason) (s : State) : (raiseFault r s).phWob = s.phWob := rfl

@[simp] theorem raiseFault_phSwp (r : FaultReason) (s : State) : (raiseFault r s).phSwp = s.phSwp := rfl

@[simp] theorem raiseFault_phRev (r : FaultReason) (s : State) : (raiseFault r s).phRev = s.phRev := rfl

@[simp] theorem raiseFault_left (r : FaultReason) (s : State) : (raiseFault r s).left = s.left := rfl

@[simp] theorem raiseFault_right (r : FaultReason) (s : State) : (raiseFault r s).right = s.right := rfl

@[simp] theorem raiseFault_hostBus (r : FaultReason) (s : State) : (raiseFault r s).hostBus = s.hostBus := rfl

@[simp] theorem raiseFault_readData (r : FaultReason) (s : State) : (raiseFault r s).readData = s.readData := rfl

@[simp] theorem raiseFault_drawCount (r : FaultReason) (s : State) : (raiseFault r s).drawCount = s.drawCount := rfl

/-! ## answer -/

@[simp] theorem answer_data (w : Word) (s : State) : (answer w s).data = s.data := rfl

@[simp] theorem answer_result (w : Word) (s : State) : (answer w s).result = w := rfl

@[simp] theorem answer_outL (w : Word) (s : State) : (answer w s).outL = s.outL := rfl

@[simp] theorem answer_outR (w : Word) (s : State) : (answer w s).outR = s.outR := rfl

@[simp] theorem answer_initDone (w : Word) (s : State) : (answer w s).initDone = s.initDone := rfl

@[simp] theorem answer_err (w : Word) (s : State) : (answer w s).err = s.err := rfl

@[simp] theorem answer_fs (w : Word) (s : State) : (answer w s).fs = s.fs := rfl

@[simp] theorem answer_dampA (w : Word) (s : State) : (answer w s).dampA = s.dampA := rfl

@[simp] theorem answer_params (w : Word) (s : State) : (answer w s).params = s.params := rfl

@[simp] theorem answer_currentParam (w : Word) (s : State) : (answer w s).currentParam = s.currentParam := rfl

@[simp] theorem answer_locked (w : Word) (s : State) : (answer w s).locked = s.locked := rfl

@[simp] theorem answer_lockReference (w : Word) (s : State) : (answer w s).lockReference = s.lockReference := rfl

@[simp] theorem answer_muted (w : Word) (s : State) : (answer w s).muted = s.muted := rfl

@[simp] theorem answer_phWob (w : Word) (s : State) : (answer w s).phWob = s.phWob := rfl

@[simp] theorem answer_phSwp (w : Word) (s : State) : (answer w s).phSwp = s.phSwp := rfl

@[simp] theorem answer_phRev (w : Word) (s : State) : (answer w s).phRev = s.phRev := rfl

@[simp] theorem answer_left (w : Word) (s : State) : (answer w s).left = s.left := rfl

@[simp] theorem answer_right (w : Word) (s : State) : (answer w s).right = s.right := rfl

@[simp] theorem answer_hostBus (w : Word) (s : State) : (answer w s).hostBus = s.hostBus := rfl

@[simp] theorem answer_readData (w : Word) (s : State) : (answer w s).readData = s.readData := rfl

@[simp] theorem answer_drawCount (w : Word) (s : State) : (answer w s).drawCount = s.drawCount := rfl

/-! ## lockAt -/

@[simp] theorem lockAt_data (k : Word) (s : State) : (lockAt k s).data = s.data := rfl

@[simp] theorem lockAt_result (k : Word) (s : State) : (lockAt k s).result = s.result := rfl

@[simp] theorem lockAt_outL (k : Word) (s : State) : (lockAt k s).outL = s.outL := rfl

@[simp] theorem lockAt_outR (k : Word) (s : State) : (lockAt k s).outR = s.outR := rfl

@[simp] theorem lockAt_initDone (k : Word) (s : State) : (lockAt k s).initDone = s.initDone := rfl

@[simp] theorem lockAt_err (k : Word) (s : State) : (lockAt k s).err = s.err := rfl

@[simp] theorem lockAt_fs (k : Word) (s : State) : (lockAt k s).fs = s.fs := rfl

@[simp] theorem lockAt_dampA (k : Word) (s : State) : (lockAt k s).dampA = s.dampA := rfl

@[simp] theorem lockAt_params (k : Word) (s : State) : (lockAt k s).params = s.params := rfl

@[simp] theorem lockAt_currentParam (k : Word) (s : State) : (lockAt k s).currentParam = s.currentParam := rfl

@[simp] theorem lockAt_locked (k : Word) (s : State) : (lockAt k s).locked = true := rfl

@[simp] theorem lockAt_lockReference (k : Word) (s : State) : (lockAt k s).lockReference = k := rfl

@[simp] theorem lockAt_muted (k : Word) (s : State) : (lockAt k s).muted = s.muted := rfl

@[simp] theorem lockAt_phWob (k : Word) (s : State) : (lockAt k s).phWob = s.phWob := rfl

@[simp] theorem lockAt_phSwp (k : Word) (s : State) : (lockAt k s).phSwp = s.phSwp := rfl

@[simp] theorem lockAt_phRev (k : Word) (s : State) : (lockAt k s).phRev = s.phRev := rfl

@[simp] theorem lockAt_left (k : Word) (s : State) : (lockAt k s).left = s.left := rfl

@[simp] theorem lockAt_right (k : Word) (s : State) : (lockAt k s).right = s.right := rfl

@[simp] theorem lockAt_hostBus (k : Word) (s : State) : (lockAt k s).hostBus = s.hostBus := rfl

@[simp] theorem lockAt_readData (k : Word) (s : State) : (lockAt k s).readData = s.readData := rfl

@[simp] theorem lockAt_drawCount (k : Word) (s : State) : (lockAt k s).drawCount = s.drawCount := rfl

/-! ## unlock -/

@[simp] theorem unlock_data (s : State) : (unlock s).data = s.data := rfl

@[simp] theorem unlock_result (s : State) : (unlock s).result = s.result := rfl

@[simp] theorem unlock_outL (s : State) : (unlock s).outL = s.outL := rfl

@[simp] theorem unlock_outR (s : State) : (unlock s).outR = s.outR := rfl

@[simp] theorem unlock_initDone (s : State) : (unlock s).initDone = s.initDone := rfl

@[simp] theorem unlock_err (s : State) : (unlock s).err = s.err := rfl

@[simp] theorem unlock_fs (s : State) : (unlock s).fs = s.fs := rfl

@[simp] theorem unlock_dampA (s : State) : (unlock s).dampA = s.dampA := rfl

@[simp] theorem unlock_params (s : State) : (unlock s).params = s.params := rfl

@[simp] theorem unlock_currentParam (s : State) : (unlock s).currentParam = s.currentParam := rfl

@[simp] theorem unlock_locked (s : State) : (unlock s).locked = false := rfl

@[simp] theorem unlock_lockReference (s : State) : (unlock s).lockReference = s.lockReference := rfl

@[simp] theorem unlock_muted (s : State) : (unlock s).muted = s.muted := rfl

@[simp] theorem unlock_phWob (s : State) : (unlock s).phWob = s.phWob := rfl

@[simp] theorem unlock_phSwp (s : State) : (unlock s).phSwp = s.phSwp := rfl

@[simp] theorem unlock_phRev (s : State) : (unlock s).phRev = s.phRev := rfl

@[simp] theorem unlock_left (s : State) : (unlock s).left = s.left := rfl

@[simp] theorem unlock_right (s : State) : (unlock s).right = s.right := rfl

@[simp] theorem unlock_hostBus (s : State) : (unlock s).hostBus = s.hostBus := rfl

@[simp] theorem unlock_readData (s : State) : (unlock s).readData = s.readData := rfl

@[simp] theorem unlock_drawCount (s : State) : (unlock s).drawCount = s.drawCount := rfl

/-! ## toggleMute -/

@[simp] theorem toggleMute_data (s : State) : (toggleMute s).data = s.data := rfl

@[simp] theorem toggleMute_result (s : State) : (toggleMute s).result = s.result := rfl

@[simp] theorem toggleMute_outL (s : State) : (toggleMute s).outL = s.outL := rfl

@[simp] theorem toggleMute_outR (s : State) : (toggleMute s).outR = s.outR := rfl

@[simp] theorem toggleMute_initDone (s : State) : (toggleMute s).initDone = s.initDone := rfl

@[simp] theorem toggleMute_err (s : State) : (toggleMute s).err = s.err := rfl

@[simp] theorem toggleMute_fs (s : State) : (toggleMute s).fs = s.fs := rfl

@[simp] theorem toggleMute_dampA (s : State) : (toggleMute s).dampA = s.dampA := rfl

@[simp] theorem toggleMute_params (s : State) : (toggleMute s).params = s.params := rfl

@[simp] theorem toggleMute_currentParam (s : State) : (toggleMute s).currentParam = s.currentParam := rfl

@[simp] theorem toggleMute_locked (s : State) : (toggleMute s).locked = s.locked := rfl

@[simp] theorem toggleMute_lockReference (s : State) : (toggleMute s).lockReference = s.lockReference := rfl

@[simp] theorem toggleMute_muted (s : State) : (toggleMute s).muted = !s.muted := rfl

@[simp] theorem toggleMute_phWob (s : State) : (toggleMute s).phWob = s.phWob := rfl

@[simp] theorem toggleMute_phSwp (s : State) : (toggleMute s).phSwp = s.phSwp := rfl

@[simp] theorem toggleMute_phRev (s : State) : (toggleMute s).phRev = s.phRev := rfl

@[simp] theorem toggleMute_left (s : State) : (toggleMute s).left = s.left := rfl

@[simp] theorem toggleMute_right (s : State) : (toggleMute s).right = s.right := rfl

@[simp] theorem toggleMute_hostBus (s : State) : (toggleMute s).hostBus = s.hostBus := rfl

@[simp] theorem toggleMute_readData (s : State) : (toggleMute s).readData = s.readData := rfl

@[simp] theorem toggleMute_drawCount (s : State) : (toggleMute s).drawCount = s.drawCount := rfl

/-! ## unmute -/

@[simp] theorem unmute_data (s : State) : (unmute s).data = s.data := rfl

@[simp] theorem unmute_result (s : State) : (unmute s).result = s.result := rfl

@[simp] theorem unmute_outL (s : State) : (unmute s).outL = s.outL := rfl

@[simp] theorem unmute_outR (s : State) : (unmute s).outR = s.outR := rfl

@[simp] theorem unmute_initDone (s : State) : (unmute s).initDone = s.initDone := rfl

@[simp] theorem unmute_err (s : State) : (unmute s).err = s.err := rfl

@[simp] theorem unmute_fs (s : State) : (unmute s).fs = s.fs := rfl

@[simp] theorem unmute_dampA (s : State) : (unmute s).dampA = s.dampA := rfl

@[simp] theorem unmute_params (s : State) : (unmute s).params = s.params := rfl

@[simp] theorem unmute_currentParam (s : State) : (unmute s).currentParam = s.currentParam := rfl

@[simp] theorem unmute_locked (s : State) : (unmute s).locked = s.locked := rfl

@[simp] theorem unmute_lockReference (s : State) : (unmute s).lockReference = s.lockReference := rfl

@[simp] theorem unmute_muted (s : State) : (unmute s).muted = false := rfl

@[simp] theorem unmute_phWob (s : State) : (unmute s).phWob = s.phWob := rfl

@[simp] theorem unmute_phSwp (s : State) : (unmute s).phSwp = s.phSwp := rfl

@[simp] theorem unmute_phRev (s : State) : (unmute s).phRev = s.phRev := rfl

@[simp] theorem unmute_left (s : State) : (unmute s).left = s.left := rfl

@[simp] theorem unmute_right (s : State) : (unmute s).right = s.right := rfl

@[simp] theorem unmute_hostBus (s : State) : (unmute s).hostBus = s.hostBus := rfl

@[simp] theorem unmute_readData (s : State) : (unmute s).readData = s.readData := rfl

@[simp] theorem unmute_drawCount (s : State) : (unmute s).drawCount = s.drawCount := rfl

/-! ## writeSlot -/

@[simp] theorem writeSlot_data (cfg : Params) (k : Word) (s : State) : (writeSlot cfg k s).data = s.data := rfl

@[simp] theorem writeSlot_result (cfg : Params) (k : Word) (s : State) : (writeSlot cfg k s).result = s.result := rfl

@[simp] theorem writeSlot_outL (cfg : Params) (k : Word) (s : State) : (writeSlot cfg k s).outL = s.outL := rfl

@[simp] theorem writeSlot_outR (cfg : Params) (k : Word) (s : State) : (writeSlot cfg k s).outR = s.outR := rfl

@[simp] theorem writeSlot_initDone (cfg : Params) (k : Word) (s : State) : (writeSlot cfg k s).initDone = s.initDone := rfl

@[simp] theorem writeSlot_err (cfg : Params) (k : Word) (s : State) : (writeSlot cfg k s).err = s.err := rfl

@[simp] theorem writeSlot_fs (cfg : Params) (k : Word) (s : State) : (writeSlot cfg k s).fs = s.fs := rfl

@[simp] theorem writeSlot_dampA (cfg : Params) (k : Word) (s : State) : (writeSlot cfg k s).dampA = s.dampA := rfl

@[simp] theorem writeSlot_params (cfg : Params) (k : Word) (s : State) : (writeSlot cfg k s).params = s.params.set s.currentParam.val (forward cfg s.currentParam k) := rfl

@[simp] theorem writeSlot_currentParam (cfg : Params) (k : Word) (s : State) : (writeSlot cfg k s).currentParam = s.currentParam := rfl

@[simp] theorem writeSlot_locked (cfg : Params) (k : Word) (s : State) : (writeSlot cfg k s).locked = s.locked := rfl

@[simp] theorem writeSlot_lockReference (cfg : Params) (k : Word) (s : State) : (writeSlot cfg k s).lockReference = s.lockReference := rfl

@[simp] theorem writeSlot_muted (cfg : Params) (k : Word) (s : State) : (writeSlot cfg k s).muted = s.muted := rfl

@[simp] theorem writeSlot_phWob (cfg : Params) (k : Word) (s : State) : (writeSlot cfg k s).phWob = s.phWob := rfl

@[simp] theorem writeSlot_phSwp (cfg : Params) (k : Word) (s : State) : (writeSlot cfg k s).phSwp = s.phSwp := rfl

@[simp] theorem writeSlot_phRev (cfg : Params) (k : Word) (s : State) : (writeSlot cfg k s).phRev = s.phRev := rfl

@[simp] theorem writeSlot_left (cfg : Params) (k : Word) (s : State) : (writeSlot cfg k s).left = s.left := rfl

@[simp] theorem writeSlot_right (cfg : Params) (k : Word) (s : State) : (writeSlot cfg k s).right = s.right := rfl

@[simp] theorem writeSlot_hostBus (cfg : Params) (k : Word) (s : State) : (writeSlot cfg k s).hostBus = s.hostBus := rfl

@[simp] theorem writeSlot_readData (cfg : Params) (k : Word) (s : State) : (writeSlot cfg k s).readData = s.readData := rfl

@[simp] theorem writeSlot_drawCount (cfg : Params) (k : Word) (s : State) : (writeSlot cfg k s).drawCount = s.drawCount := rfl

/-! ## randomizeStore -/

@[simp] theorem randomizeStore_data (s : State) : (randomizeStore s).data = s.data := by
  simp only [randomizeStore]

@[simp] theorem randomizeStore_result (s : State) : (randomizeStore s).result = s.result := by
  simp only [randomizeStore]

@[simp] theorem randomizeStore_outL (s : State) : (randomizeStore s).outL = s.outL := by
  simp only [randomizeStore]

@[simp] theorem randomizeStore_outR (s : State) : (randomizeStore s).outR = s.outR := by
  simp only [randomizeStore]

@[simp] theorem randomizeStore_initDone (s : State) : (randomizeStore s).initDone = s.initDone := by
  simp only [randomizeStore]

@[simp] theorem randomizeStore_err (s : State) : (randomizeStore s).err = s.err := by
  simp only [randomizeStore]

@[simp] theorem randomizeStore_fs (s : State) : (randomizeStore s).fs = s.fs := by
  simp only [randomizeStore]

@[simp] theorem randomizeStore_dampA (s : State) : (randomizeStore s).dampA = s.dampA := by
  simp only [randomizeStore]

@[simp] theorem randomizeStore_params (s : State) : (randomizeStore s).params = Vector.ofFn (drawSlot s.drawCount) := by
  simp only [randomizeStore]

@[simp] theorem randomizeStore_currentParam (s : State) : (randomizeStore s).currentParam = s.currentParam := by
  simp only [randomizeStore]

@[simp] theorem randomizeStore_locked (s : State) : (randomizeStore s).locked = s.locked := by
  simp only [randomizeStore]

@[simp] theorem randomizeStore_lockReference (s : State) : (randomizeStore s).lockReference = s.lockReference := by
  simp only [randomizeStore]

@[simp] theorem randomizeStore_muted (s : State) : (randomizeStore s).muted = s.muted := by
  simp only [randomizeStore]

@[simp] theorem randomizeStore_phWob (s : State) : (randomizeStore s).phWob = s.phWob := by
  simp only [randomizeStore]

@[simp] theorem randomizeStore_phSwp (s : State) : (randomizeStore s).phSwp = s.phSwp := by
  simp only [randomizeStore]

@[simp] theorem randomizeStore_phRev (s : State) : (randomizeStore s).phRev = s.phRev := by
  simp only [randomizeStore]

@[simp] theorem randomizeStore_left (s : State) : (randomizeStore s).left = s.left := by
  simp only [randomizeStore]

@[simp] theorem randomizeStore_right (s : State) : (randomizeStore s).right = s.right := by
  simp only [randomizeStore]

@[simp] theorem randomizeStore_hostBus (s : State) : (randomizeStore s).hostBus = s.hostBus := by
  simp only [randomizeStore]

@[simp] theorem randomizeStore_readData (s : State) : (randomizeStore s).readData = s.readData := by
  simp only [randomizeStore]

@[simp] theorem randomizeStore_drawCount (s : State) : (randomizeStore s).drawCount = s.drawCount + 14 := by
  simp only [randomizeStore]

/-! ## restoreDefaults -/

@[simp] theorem restoreDefaults_data (cfg : Params) (s : State) : (restoreDefaults cfg s).data = s.data := by
  simp only [restoreDefaults]

@[simp] theorem restoreDefaults_result (cfg : Params) (s : State) : (restoreDefaults cfg s).result = s.result := by
  simp only [restoreDefaults]

@[simp] theorem restoreDefaults_outL (cfg : Params) (s : State) : (restoreDefaults cfg s).outL = s.outL := by
  simp only [restoreDefaults]

@[simp] theorem restoreDefaults_outR (cfg : Params) (s : State) : (restoreDefaults cfg s).outR = s.outR := by
  simp only [restoreDefaults]

@[simp] theorem restoreDefaults_initDone (cfg : Params) (s : State) : (restoreDefaults cfg s).initDone = s.initDone := by
  simp only [restoreDefaults]

@[simp] theorem restoreDefaults_err (cfg : Params) (s : State) : (restoreDefaults cfg s).err = s.err := by
  simp only [restoreDefaults]

@[simp] theorem restoreDefaults_fs (cfg : Params) (s : State) : (restoreDefaults cfg s).fs = s.fs := by
  simp only [restoreDefaults]

@[simp] theorem restoreDefaults_dampA (cfg : Params) (s : State) : (restoreDefaults cfg s).dampA = s.dampA := by
  simp only [restoreDefaults]

@[simp] theorem restoreDefaults_params (cfg : Params) (s : State) : (restoreDefaults cfg s).params = Vector.ofFn cfg.paramDefault := by
  simp only [restoreDefaults]

@[simp] theorem restoreDefaults_currentParam (cfg : Params) (s : State) : (restoreDefaults cfg s).currentParam = s.currentParam := by
  simp only [restoreDefaults]

@[simp] theorem restoreDefaults_locked (cfg : Params) (s : State) : (restoreDefaults cfg s).locked = s.locked := by
  simp only [restoreDefaults]

@[simp] theorem restoreDefaults_lockReference (cfg : Params) (s : State) : (restoreDefaults cfg s).lockReference = s.lockReference := by
  simp only [restoreDefaults]

@[simp] theorem restoreDefaults_muted (cfg : Params) (s : State) : (restoreDefaults cfg s).muted = s.muted := by
  simp only [restoreDefaults]

@[simp] theorem restoreDefaults_phWob (cfg : Params) (s : State) : (restoreDefaults cfg s).phWob = s.phWob := by
  simp only [restoreDefaults]

@[simp] theorem restoreDefaults_phSwp (cfg : Params) (s : State) : (restoreDefaults cfg s).phSwp = s.phSwp := by
  simp only [restoreDefaults]

@[simp] theorem restoreDefaults_phRev (cfg : Params) (s : State) : (restoreDefaults cfg s).phRev = s.phRev := by
  simp only [restoreDefaults]

@[simp] theorem restoreDefaults_left (cfg : Params) (s : State) : (restoreDefaults cfg s).left = s.left := by
  simp only [restoreDefaults]

@[simp] theorem restoreDefaults_right (cfg : Params) (s : State) : (restoreDefaults cfg s).right = s.right := by
  simp only [restoreDefaults]

@[simp] theorem restoreDefaults_hostBus (cfg : Params) (s : State) : (restoreDefaults cfg s).hostBus = s.hostBus := by
  simp only [restoreDefaults]

@[simp] theorem restoreDefaults_readData (cfg : Params) (s : State) : (restoreDefaults cfg s).readData = s.readData := by
  simp only [restoreDefaults]

@[simp] theorem restoreDefaults_drawCount (cfg : Params) (s : State) : (restoreDefaults cfg s).drawCount = s.drawCount := by
  simp only [restoreDefaults]

/-! ## mutedFrame -/

@[simp] theorem mutedFrame_data (s : State) : (mutedFrame s).data = s.data := rfl

@[simp] theorem mutedFrame_result (s : State) : (mutedFrame s).result = s.result := rfl

@[simp] theorem mutedFrame_outL (s : State) : (mutedFrame s).outL = F32.plusZero := rfl

@[simp] theorem mutedFrame_outR (s : State) : (mutedFrame s).outR = F32.plusZero := rfl

@[simp] theorem mutedFrame_initDone (s : State) : (mutedFrame s).initDone = s.initDone := rfl

@[simp] theorem mutedFrame_err (s : State) : (mutedFrame s).err = s.err := rfl

@[simp] theorem mutedFrame_fs (s : State) : (mutedFrame s).fs = s.fs := rfl

@[simp] theorem mutedFrame_dampA (s : State) : (mutedFrame s).dampA = s.dampA := rfl

@[simp] theorem mutedFrame_params (s : State) : (mutedFrame s).params = s.params := rfl

@[simp] theorem mutedFrame_currentParam (s : State) : (mutedFrame s).currentParam = s.currentParam := rfl

@[simp] theorem mutedFrame_locked (s : State) : (mutedFrame s).locked = s.locked := rfl

@[simp] theorem mutedFrame_lockReference (s : State) : (mutedFrame s).lockReference = s.lockReference := rfl

@[simp] theorem mutedFrame_muted (s : State) : (mutedFrame s).muted = s.muted := rfl

@[simp] theorem mutedFrame_phWob (s : State) : (mutedFrame s).phWob = s.phWob := rfl

@[simp] theorem mutedFrame_phSwp (s : State) : (mutedFrame s).phSwp = s.phSwp := rfl

@[simp] theorem mutedFrame_phRev (s : State) : (mutedFrame s).phRev = s.phRev := rfl

@[simp] theorem mutedFrame_left (s : State) : (mutedFrame s).left = s.left := rfl

@[simp] theorem mutedFrame_right (s : State) : (mutedFrame s).right = s.right := rfl

@[simp] theorem mutedFrame_hostBus (s : State) : (mutedFrame s).hostBus = s.hostBus := rfl

@[simp] theorem mutedFrame_readData (s : State) : (mutedFrame s).readData = s.readData := rfl

@[simp] theorem mutedFrame_drawCount (s : State) : (mutedFrame s).drawCount = s.drawCount := rfl

/-! ## initState -/

@[simp] theorem initState_data (cfg : Params) (r : Word) (s : State) : (initState cfg r s).data = s.data := by
  simp only [initState, restoreDefaults_data]

@[simp] theorem initState_result (cfg : Params) (r : Word) (s : State) : (initState cfg r s).result = s.result := by
  simp only [initState, restoreDefaults_result]

@[simp] theorem initState_outL (cfg : Params) (r : Word) (s : State) : (initState cfg r s).outL = F32.plusZero := by
  simp only [initState]

@[simp] theorem initState_outR (cfg : Params) (r : Word) (s : State) : (initState cfg r s).outR = F32.plusZero := by
  simp only [initState]

@[simp] theorem initState_initDone (cfg : Params) (r : Word) (s : State) : (initState cfg r s).initDone = true := by
  simp only [initState]

@[simp] theorem initState_err (cfg : Params) (r : Word) (s : State) : (initState cfg r s).err = s.err := by
  simp only [initState, restoreDefaults_err]

@[simp] theorem initState_fs (cfg : Params) (r : Word) (s : State) : (initState cfg r s).fs = r := by
  simp only [initState]

@[simp] theorem initState_dampA (cfg : Params) (r : Word) (s : State) : (initState cfg r s).dampA = dampCoefficient cfg r := by
  simp only [initState]

@[simp] theorem initState_params (cfg : Params) (r : Word) (s : State) : (initState cfg r s).params = Vector.ofFn cfg.paramDefault := by
  simp only [initState, restoreDefaults_params]

@[simp] theorem initState_currentParam (cfg : Params) (r : Word) (s : State) : (initState cfg r s).currentParam = 0 := by
  simp only [initState]

@[simp] theorem initState_locked (cfg : Params) (r : Word) (s : State) : (initState cfg r s).locked = false := by
  simp only [initState]

@[simp] theorem initState_lockReference (cfg : Params) (r : Word) (s : State) : (initState cfg r s).lockReference = F32.plusZero := by
  simp only [initState]

@[simp] theorem initState_muted (cfg : Params) (r : Word) (s : State) : (initState cfg r s).muted = false := by
  simp only [initState]

@[simp] theorem initState_phWob (cfg : Params) (r : Word) (s : State) : (initState cfg r s).phWob = F32.plusZero := by
  simp only [initState]

@[simp] theorem initState_phSwp (cfg : Params) (r : Word) (s : State) : (initState cfg r s).phSwp = F32.plusZero := by
  simp only [initState]

@[simp] theorem initState_phRev (cfg : Params) (r : Word) (s : State) : (initState cfg r s).phRev = F32.plusZero := by
  simp only [initState]

@[simp] theorem initState_left (cfg : Params) (r : Word) (s : State) : (initState cfg r s).left = freshChannel cfg .left := by
  simp only [initState]

@[simp] theorem initState_right (cfg : Params) (r : Word) (s : State) : (initState cfg r s).right = freshChannel cfg .right := by
  simp only [initState]

@[simp] theorem initState_hostBus (cfg : Params) (r : Word) (s : State) : (initState cfg r s).hostBus = s.hostBus := by
  simp only [initState, restoreDefaults_hostBus]

@[simp] theorem initState_readData (cfg : Params) (r : Word) (s : State) : (initState cfg r s).readData = s.readData := by
  simp only [initState, restoreDefaults_readData]

@[simp] theorem initState_drawCount (cfg : Params) (r : Word) (s : State) : (initState cfg r s).drawCount = s.drawCount := by
  simp only [initState, restoreDefaults_drawCount]

/-! ## writeFrame, and the fields a frame does not write (40_system R161) -/

@[simp] theorem writeFrame_data (r : FrameResult) (s : State) : (writeFrame r s).data = s.data := rfl

@[simp] theorem writeFrame_result (r : FrameResult) (s : State) : (writeFrame r s).result = s.result := rfl

@[simp] theorem writeFrame_outL (r : FrameResult) (s : State) : (writeFrame r s).outL = r.outL := rfl

@[simp] theorem writeFrame_outR (r : FrameResult) (s : State) : (writeFrame r s).outR = r.outR := rfl

@[simp] theorem writeFrame_initDone (r : FrameResult) (s : State) : (writeFrame r s).initDone = s.initDone := rfl

@[simp] theorem writeFrame_err (r : FrameResult) (s : State) : (writeFrame r s).err = s.err := rfl

@[simp] theorem writeFrame_fs (r : FrameResult) (s : State) : (writeFrame r s).fs = s.fs := rfl

@[simp] theorem writeFrame_dampA (r : FrameResult) (s : State) : (writeFrame r s).dampA = s.dampA := rfl

@[simp] theorem writeFrame_params (r : FrameResult) (s : State) : (writeFrame r s).params = s.params := rfl

@[simp] theorem writeFrame_currentParam (r : FrameResult) (s : State) : (writeFrame r s).currentParam = s.currentParam := rfl

@[simp] theorem writeFrame_locked (r : FrameResult) (s : State) : (writeFrame r s).locked = s.locked := rfl

@[simp] theorem writeFrame_lockReference (r : FrameResult) (s : State) : (writeFrame r s).lockReference = s.lockReference := rfl

@[simp] theorem writeFrame_muted (r : FrameResult) (s : State) : (writeFrame r s).muted = s.muted := rfl

@[simp] theorem writeFrame_phWob (r : FrameResult) (s : State) : (writeFrame r s).phWob = r.phWob := rfl

@[simp] theorem writeFrame_phSwp (r : FrameResult) (s : State) : (writeFrame r s).phSwp = r.phSwp := rfl

@[simp] theorem writeFrame_phRev (r : FrameResult) (s : State) : (writeFrame r s).phRev = r.phRev := rfl

@[simp] theorem writeFrame_left (r : FrameResult) (s : State) : (writeFrame r s).left = r.left := rfl

@[simp] theorem writeFrame_right (r : FrameResult) (s : State) : (writeFrame r s).right = r.right := rfl

@[simp] theorem writeFrame_hostBus (r : FrameResult) (s : State) : (writeFrame r s).hostBus = s.hostBus := rfl

@[simp] theorem writeFrame_readData (r : FrameResult) (s : State) : (writeFrame r s).readData = s.readData := rfl

@[simp] theorem writeFrame_drawCount (r : FrameResult) (s : State) : (writeFrame r s).drawCount = s.drawCount := rfl

@[simp] theorem frame_data (cfg : Params) (s : State) : (frame cfg s).data = s.data := by
  simp only [frame, writeFrame_data]

@[simp] theorem frame_result (cfg : Params) (s : State) : (frame cfg s).result = s.result := by
  simp only [frame, writeFrame_result]

@[simp] theorem frame_initDone (cfg : Params) (s : State) : (frame cfg s).initDone = s.initDone := by
  simp only [frame, writeFrame_initDone]

@[simp] theorem frame_err (cfg : Params) (s : State) : (frame cfg s).err = s.err := by
  simp only [frame, writeFrame_err]

@[simp] theorem frame_fs (cfg : Params) (s : State) : (frame cfg s).fs = s.fs := by
  simp only [frame, writeFrame_fs]

@[simp] theorem frame_dampA (cfg : Params) (s : State) : (frame cfg s).dampA = s.dampA := by
  simp only [frame, writeFrame_dampA]

@[simp] theorem frame_params (cfg : Params) (s : State) : (frame cfg s).params = s.params := by
  simp only [frame, writeFrame_params]

@[simp] theorem frame_currentParam (cfg : Params) (s : State) : (frame cfg s).currentParam = s.currentParam := by
  simp only [frame, writeFrame_currentParam]

@[simp] theorem frame_locked (cfg : Params) (s : State) : (frame cfg s).locked = s.locked := by
  simp only [frame, writeFrame_locked]

@[simp] theorem frame_lockReference (cfg : Params) (s : State) : (frame cfg s).lockReference = s.lockReference := by
  simp only [frame, writeFrame_lockReference]

@[simp] theorem frame_muted (cfg : Params) (s : State) : (frame cfg s).muted = s.muted := by
  simp only [frame, writeFrame_muted]

@[simp] theorem frame_hostBus (cfg : Params) (s : State) : (frame cfg s).hostBus = s.hostBus := by
  simp only [frame, writeFrame_hostBus]

@[simp] theorem frame_readData (cfg : Params) (s : State) : (frame cfg s).readData = s.readData := by
  simp only [frame, writeFrame_readData]

@[simp] theorem frame_drawCount (cfg : Params) (s : State) : (frame cfg s).drawCount = s.drawCount := by
  simp only [frame, writeFrame_drawCount]

/-! ## Delay lines -/

@[simp] theorem setLength_buf (d : Nat) (l : DelayLine) : (setLength d l).buf = l.buf := rfl

@[simp] theorem setLength_wp (d : Nat) (l : DelayLine) : (setLength d l).wp = l.wp := rfl

@[simp] theorem setLength_len (d : Nat) (l : DelayLine) : (setLength d l).len = d := rfl

@[simp] theorem memWrite_buf (cap : Nat) (v : Word) (l : DelayLine) :
    (memWrite cap v l).buf = bufWrite l.wp v l.buf := rfl

@[simp] theorem memWrite_wp (cap : Nat) (v : Word) (l : DelayLine) : (memWrite cap v l).wp = (l.wp + 1) % cap := rfl

@[simp] theorem memWrite_len (cap : Nat) (v : Word) (l : DelayLine) : (memWrite cap v l).len = l.len := rfl

@[simp] theorem freshLine_buf (d : Nat) : (freshLine d).buf = [] := rfl

@[simp] theorem freshLine_wp (d : Nat) : (freshLine d).wp = 0 := rfl

@[simp] theorem freshLine_len (d : Nat) : (freshLine d).len = d := rfl

/-! ## Channels -/

@[simp] theorem channel_left (s : State) : channel s .left = s.left := rfl

@[simp] theorem channel_right (s : State) : channel s .right = s.right := rfl

@[simp] theorem freshChannel_phA (cfg : Params) (c : Chan) : (freshChannel cfg c).phA = F32.plusZero := rfl

@[simp] theorem freshChannel_phB (cfg : Params) (c : Chan) : (freshChannel cfg c).phB = F32.plusZero := rfl

@[simp] theorem freshChannel_phs (cfg : Params) (c : Chan) : (freshChannel cfg c).phs = cfg.phaserInit := rfl

@[simp] theorem freshChannel_svf (cfg : Params) (c : Chan) : (freshChannel cfg c).svf = cfg.svfInit := rfl

@[simp] theorem freshChannel_dmp (cfg : Params) (c : Chan) : (freshChannel cfg c).dmp = F32.plusZero := rfl

@[simp] theorem freshChannel_comb (cfg : Params) (c : Chan) (i : Fin 8) :
    (freshChannel cfg c).comb[i] = freshLine (combLength cfg c i 0) := by simp [freshChannel]

@[simp] theorem freshChannel_cds (cfg : Params) (c : Chan) (i : Fin 8) :
    (freshChannel cfg c).cds[i] = F32.plusZero := by simp [freshChannel]

@[simp] theorem freshChannel_ap (cfg : Params) (c : Chan) (j : Fin 4) :
    (freshChannel cfg c).ap[j] = freshLine (apLength cfg c j) := by simp [freshChannel]

end Sys2Proof.Machine
end

