-- ==== Sys2Proof/Laws/Datapath.lean ====
section
/-! SUPPORT. What each datapath stage can do to a channel's state, one lemma per stage. -/

namespace Sys2Proof.Machine

/-- 42_voice_generator R244: a voice writes the two phases of its channel and nothing else. -/
theorem voice_channel (cfg : Params) (fs w f : Word) (ch : ChannelState) :
    (voice cfg fs w f ch).2 =
      { ch with phA := advancePhase fs f ch.phA, phB := advancePhase fs f ch.phB } := rfl

/-- 44_effects_chain R295, R291: a phaser writes `phs[c]`, and nothing when bypassed. -/
theorem phaser_channel (cfg : Params) (fs : Word) (S : Snapshot) (c : Chan) (x : Word) (ch : ChannelState) :
    ∃ st, (phaser cfg fs S c x ch).2 = { ch with phs := st } ∧ (bypassed S.phaser = true → st = ch.phs) := by
  by_cases h : bypassed S.phaser = true
  · exact ⟨ch.phs, by simp [phaser, h], fun _ => rfl⟩
  · exact ⟨(cfg.phaserStep fs ch.phs x S.phaser (phaserRate c S.phaser)).2, by simp [phaser, h], fun h' => absurd h' h⟩

/-- R300, R291: a filter writes `svf[c]`, and nothing in its dead-zone. -/
theorem filterStage_channel (cfg : Params) (fs : Word) (S : Snapshot) (x : Word) (ch : ChannelState) :
    ∃ st, (filterStage cfg fs S x ch).2 = { ch with svf := st } ∧ (filterBranch S.filter = none → st = ch.svf) := by
  cases h : filterBranch S.filter with
  | none => exact ⟨ch.svf, by simp [filterStage, h], fun _ => rfl⟩
  | some b =>
    exact ⟨(cfg.svfStep fs ch.svf x b.1 resonance b.2).2, by simp [filterStage, h], fun h' => by cases h'⟩

/-- R311: damping writes `dmp[c]`, which is also its output. -/
theorem damp_channel (a x : Word) (ch : ChannelState) :
    (damp a x ch).2 = { ch with dmp := (damp a x ch).1 } := rfl

/-- The chain before the reverb writes `phs[c]`, `svf[c]` and `dmp[c]` only. -/
theorem channelChain_channel (cfg : Params) (fs a : Word) (S : Snapshot) (c : Chan) (v : Word) (ch : ChannelState) :
    ∃ p q d, (channelChain cfg fs a S c v ch).2 = { ch with phs := p, svf := q, dmp := d } := by
  obtain ⟨p, hp, -⟩ := phaser_channel cfg fs S c (drive cfg S v) ch
  obtain ⟨q, hq, -⟩ := filterStage_channel cfg fs S (phaser cfg fs S c (drive cfg S v) ch).1 { ch with phs := p }
  refine ⟨p, q, (damp a (filterStage cfg fs S (phaser cfg fs S c (drive cfg S v) ch).1 { ch with phs := p }).1
    { ch with phs := p, svf := q }).1, ?_⟩
  simp only [channelChain, hp, hq, damp_channel]

/-- Before the reverb a channel's frame writes its phases, `phs[c]`, `svf[c]` and `dmp[c]` only. -/
theorem channelFrame_channel (cfg : Params) (fs a : Word) (S : Snapshot) (c : Chan) (f : Word) (ch : ChannelState) :
    ∃ p q d, (channelFrame cfg fs a S c f ch).2 =
      { ch with phA := advancePhase fs f ch.phA, phB := advancePhase fs f ch.phB, phs := p, svf := q, dmp := d } := by
  obtain ⟨p, q, d, h⟩ := channelChain_channel cfg fs a S c (voice cfg fs S.wave f ch).1 (voice cfg fs S.wave f ch).2
  exact ⟨p, q, d, h⟩

/-- 45_reverb R349: a comb step keeps the line's storage in order and leaves it the given length. -/
theorem combStep_line (len : Nat) (f d x : Word) (l : DelayLine) (z : Word) (h : lineOk Config.combCap l) :
    lineOk Config.combCap (combStep len f d x l z).line ∧ (combStep len f d x l z).line.len = len :=
  ⟨memWrite_lineOk _ (setLength_lineOk _ h), rfl⟩

/-- R351: an all-pass step keeps the line's storage in order and leaves it its tuning. -/
theorem apStep_line (len : Nat) (x : Word) (l : DelayLine) (h : lineOk Config.apCap l) :
    lineOk Config.apCap (apStep len x l).2 ∧ (apStep len x l).2.len = len :=
  ⟨setLength_lineOk _ (memWrite_lineOk _ h), rfl⟩

/-- R347: a comb length is in [10, 1740]. -/
theorem combLength_range (cfg : Params) (c : Chan) (i : Fin 8) (off : Int) :
    10 ≤ combLength cfg c i off ∧ combLength cfg c i off ≤ 1740 := by
  simp only [combLength, Config.combLenMin, Config.combLenMax]
  omega

/-- R349, R350: the comb bank writes the comb lines and their accumulators only, each line by its own step. -/
theorem combBank_channel (cfg : Params) (c : Chan) (off : Int) (f d x : Word) (ch : ChannelState) :
    (combBank cfg c off f d x ch).2 =
      { ch with comb := (combBank cfg c off f d x ch).2.comb, cds := (combBank cfg c off f d x ch).2.cds } := rfl

theorem combBank_line (cfg : Params) (c : Chan) (off : Int) (f d x : Word) (ch : ChannelState) (i : Fin 8) :
    (combBank cfg c off f d x ch).2.comb[i] = (combAt cfg c off f d x ch i).line := by
  simp [combBank]

theorem combBank_cds (cfg : Params) (c : Chan) (off : Int) (f d x : Word) (ch : ChannelState) (i : Fin 8) :
    (combBank cfg c off f d x ch).2.cds[i] = (combAt cfg c off f d x ch i).damped := by
  simp [combBank]

/-- R351: an all-pass stage writes its own line only. -/
theorem apAt_channel (cfg : Params) (c : Chan) (j : Fin 4) (p : Word × ChannelState) :
    (apAt cfg c j p).2 = { p.2 with ap := p.2.ap.set j.val (apStep (apLength cfg c j) p.1 p.2.ap[j]).2 } := rfl

/-- R351, R352: after a stage its own line is the one its step leaves, and every other line is as before. -/
theorem apAt_line (cfg : Params) (c : Chan) (j k : Fin 4) (p : Word × ChannelState) :
    (apAt cfg c j p).2.ap[k] =
      if k = j then (apStep (apLength cfg c j) p.1 p.2.ap[j]).2 else p.2.ap[k] := by
  have : (k.val = j.val) = (k = j) := by rw [Fin.ext_iff]
  simp [apAt_channel, Vector.getElem_set, eq_comm (a := j.val), this]

/-- R351: what an all-pass stage stores and passes on. -/
theorem apStep_sample (len : Nat) (x : Word) (l : DelayLine) (h : lineOk Config.apCap l) :
    let w := F32.add x (F32.mul (memRead Config.apCap l) (F32.lit 5 10))
    bufRead (apStep len x l).2.buf l.wp = w ∧
      (apStep len x l).1 = F32.sub (memRead Config.apCap l) (F32.mul w (F32.lit 5 10)) :=
  ⟨bufRead_bufWrite_same _ _ h.2.1, rfl⟩

/-- 45_reverb R355: the reverb writes no state of the chain before it. -/
theorem reverb_keeps_chain (cfg : Params) (fs : Word) (S : Snapshot) (ul ur ph : Word) (l r : ChannelState) :
    let w := reverb cfg fs S ul ur ph l r
    w.left.phs = l.phs ∧ w.left.svf = l.svf ∧ w.left.dmp = l.dmp ∧
      w.right.phs = r.phs ∧ w.right.svf = r.svf ∧ w.right.dmp = r.dmp := by
  unfold reverb
  split <;> simp [reverbChannel, apCascade, apAt_channel, combBank]

/-- R345: a bypassed reverb returns its inputs and writes no state. -/
theorem reverb_bypassed {cfg : Params} {fs : Word} {S : Snapshot} {ul ur ph : Word} {l r : ChannelState}
    (h : bypassed S.rvAmt = true) :
    reverb cfg fs S ul ur ph l r = { wLeft := ul, wRight := ur, phRev := ph, left := l, right := r } := by
  simp [reverb, h]

end Sys2Proof.Machine
end

