-- ==== Sys2Proof/Laws/Decode.lean ====
section
/-! SUPPORT. The opcode map: its rows do not overlap (30_encoding R120), and what the decoder's fields read. -/

namespace Sys2Proof

/-- Two rows no word can match both (R120). -/
def OpcodeRow.disjoint (a b : OpcodeRow) : Bool := a.pattern &&& b.mask != b.pattern &&& a.mask

/-- R120: "the rows' match/mask pairs do not overlap". -/
theorem opcodeMap_disjoint : opcodeMap.Pairwise (fun a b => a.disjoint b = true) := by
  simp only [opcodeMap, List.pairwise_cons, List.mem_cons, List.not_mem_nil, or_false, forall_eq_or_imp, forall_eq,
    List.Pairwise.nil, and_true, IsEmpty.forall_iff, implies_true]
  decide

/-- Disjoint rows do not accept one word. -/
theorem disjoint_accepts {a b : OpcodeRow} (h : a.disjoint b = true) {w : Word} (ha : a.accepts w = true) :
    b.accepts w = false := by
  by_contra hb
  simp only [Bool.not_eq_false, OpcodeRow.accepts, beq_iff_eq] at ha hb
  simp only [OpcodeRow.disjoint, bne_iff_ne, ne_eq] at h
  apply h
  rw [← ha, ← hb]
  ac_rfl

/-- An int8 field read back as a two's-complement integer. -/
theorem int8_roundtrip {d : Int} (h : deltaFits d = true) : (BitVec.ofInt 8 d).toInt = d := by
  simp only [deltaFits, decide_eq_true_eq] at h
  rw [BitVec.toInt_ofInt, Int.bmod_def]
  omega

/-- An 8-bit field read back as an unsigned integer. -/
theorem nat8_roundtrip {n : Nat} (h : indexFits n = true) : (BitVec.ofNat 8 n).toNat = n := by
  simp only [indexFits, decide_eq_true_eq] at h
  rw [BitVec.toNat_ofNat]
  omega

end Sys2Proof
end

