-- ==== Sys2Proof/Laws/Float.lean ====
section
/-! SUPPORT. Small facts of the binary32 operations: the encodings of the literals (95_test_vectors section 2), and what
`within`, `neg` and the comparisons do. -/

namespace Sys2Proof.F32

/-! ## The literals of the rules (R14), each the encoding section 2 lists -/

@[simp] theorem lit_0_01 : lit 1 100 = 0x3C23D70A#32 := by decide

@[simp] theorem lit_0_015 : lit 15 1000 = 0x3C75C28F#32 := by decide

@[simp] theorem lit_0_02 : lit 2 100 = 0x3CA3D70A#32 := by decide

@[simp] theorem lit_0_05 : lit 5 100 = 0x3D4CCCCD#32 := by decide

@[simp] theorem lit_0_1 : lit 1 10 = 0x3DCCCCCD#32 := by decide

@[simp] theorem lit_0_15 : lit 15 100 = 0x3E19999A#32 := by decide

@[simp] theorem lit_0_2 : lit 2 10 = 0x3E4CCCCD#32 := by decide

@[simp] theorem lit_0_28 : lit 28 100 = 0x3E8F5C29#32 := by decide

@[simp] theorem lit_0_3 : lit 3 10 = 0x3E99999A#32 := by decide

@[simp] theorem lit_0_4 : lit 4 10 = 0x3ECCCCCD#32 := by decide

@[simp] theorem lit_0_45 : lit 45 100 = 0x3EE66666#32 := by decide

@[simp] theorem lit_0_48 : lit 48 100 = 0x3EF5C28F#32 := by decide

@[simp] theorem lit_0_5 : lit 5 10 = 0x3F000000#32 := by decide

@[simp] theorem lit_0_55 : lit 55 100 = 0x3F0CCCCD#32 := by decide

@[simp] theorem lit_0_6 : lit 6 10 = 0x3F19999A#32 := by decide

@[simp] theorem lit_0_7 : lit 7 10 = 0x3F333333#32 := by decide

@[simp] theorem lit_0_8 : lit 8 10 = 0x3F4CCCCD#32 := by decide

@[simp] theorem lit_0_9 : lit 9 10 = 0x3F666666#32 := by decide

@[simp] theorem lit_1 : lit 1 1 = 0x3F800000#32 := by decide

@[simp] theorem lit_2 : lit 2 1 = 0x40000000#32 := by decide

@[simp] theorem lit_2_1 : lit 21 10 = 0x40066666#32 := by decide

@[simp] theorem lit_14_9 : lit 149 10 = 0x416E6666#32 := by decide

@[simp] theorem lit_20 : lit 20 1 = 0x41A00000#32 := by decide

@[simp] theorem lit_55 : lit 55 1 = 0x425C0000#32 := by decide

@[simp] theorem lit_12000 : lit 12000 1 = 0x463B8000#32 := by decide

@[simp] theorem lit_48000 : lit 48000 1 = 0x473B8000#32 := by decide

/-- R14: `TWO_PI` is `2 * PI`. -/
theorem twoPi_eq : mul (lit 2 1) pi = twoPi := by decide

/-! ## Ranges -/

/-- `within` stays in its range, and reaches every value of it. -/
theorem within_range {lo hi : Word} (v : Word) (h : le lo hi = true) (hlo : le lo lo = true) :
    le lo (within lo hi v) = true ∧ le (within lo hi v) hi = true := by
  unfold within
  split
  · rename_i hv
    simpa using hv
  · exact ⟨hlo, h⟩

theorem within_of_range {lo hi v : Word} (h1 : le lo v = true) (h2 : le v hi = true) : within lo hi v = v := by
  simp [within, h1, h2]

/-- Sign inversion is its own inverse. -/
@[simp] theorem neg_neg (x : Word) : neg (neg x) = x := by
  simp [neg]

/-- A NaN is the result of every invalid operation, whatever its encoding (93_implementation_defined I14). -/
theorem nan_isNaN (op : FloatOp) (a b : Word) : isNaN (nan op a b) = true := by
  by_cases h : isNaN (Config.freeNaN op a b) = true
  · simp [nan, h]
  · have : nan op a b = 0x7FC00000#32 := by simp [nan, h]
    rw [this]
    decide

end Sys2Proof.F32
end

