-- ==== Sys2Proof/Laws/PerInstr.lean ====
section
/-! SUPPORT. Statements per command. The family `OwnRow`: a command's word matches its own row of the opcode map
(30_encoding R118), whatever its operands. -/

namespace Sys2Proof.Laws.OwnRow

/-- R118: `word & mask == match` for the word the encoder gives. -/
def Statement (i : Instr) : Prop := encode i &&& i.mask = i.pattern

/-- An operand in IDX and M leaves the bits under a mask that clears neither alone. -/
theorem masked_idx (b : BitVec 8) (p : Word) (hp : p &&& 0xFF00FFFF#32 = p) :
    (p ||| b.setWidth 32 <<< 16) &&& 0xFF00FFFF#32 = p := by
  have : b.setWidth 32 <<< 16 &&& 0xFF00FFFF#32 = 0#32 := by
    revert b; decide +kernel
  rw [BitVec.and_or_distrib_right, hp, this, BitVec.or_zero]

theorem nop : Statement .nop := by unfold Statement; decide

theorem init : Statement .init := by unfold Statement; decide

theorem process : Statement .process := by unfold Statement; decide

theorem updateControls (delta : Int) (mute : Bool) : Statement (.updateControls delta mute) := by
  unfold Statement encode
  simp only [Instr.pattern, Instr.operandBits, Instr.mask]
  generalize BitVec.ofInt 8 delta = b
  revert b mute
  decide +kernel

theorem randomize : Statement .randomize := by unfold Statement; decide

theorem reset : Statement .reset := by unfold Statement; decide

theorem isMuted : Statement .isMuted := by unfold Statement; decide

theorem getCurrentParamIndex : Statement .getCurrentParamIndex := by unfold Statement; decide

theorem getParamName (index : Nat) : Statement (.getParamName index) :=
  masked_idx _ _ (by simp only [Instr.pattern]; decide)

theorem getParamValue (index : Nat) : Statement (.getParamValue index) :=
  masked_idx _ _ (by simp only [Instr.pattern]; decide)

theorem isParamLocked : Statement .isParamLocked := by unfold Statement; decide

end Sys2Proof.Laws.OwnRow
end

