-- ==== Sys2Proof/Laws/Step.lean ====
section
/-! SUPPORT. What the shared operations and a step can do, said once: the provers cite these and do not unfold. -/

namespace Sys2Proof.Machine

/-! ## Faults and the INIT guard -/

/-- A command under the INIT guard always answers a next state: its rule's after INIT, the fault's before. -/
theorem whenInitialized_next (rule : State → State) (s : State) :
    whenInitialized rule s = .next (if s.initDone then rule s else raiseFault .notInitialized s) := rfl

theorem whenInitialized_ready {rule : State → State} {s : State} (h : s.initDone = true) :
    whenInitialized rule s = .next (rule s) := by simp [whenInitialized, h]

theorem whenInitialized_early {rule : State → State} {s : State} (h : s.initDone = false) :
    whenInitialized rule s = .next (raiseFault .notInitialized s) := by simp [whenInitialized, h]

/-! ## Commands -/

/-- The state each command leaves, with the implementation's parameters. -/
def effect (i : Instr) (s : State) : State :=
  match i with
  | .nop => s
  | .init => initFromData implementation s
  | .process => processFrame implementation s
  | .updateControls delta mute => controlTick implementation delta mute s
  | .randomize => randomizeStore s
  | .reset => resetController implementation s
  | .isMuted => answer (boolWord s.muted) s
  | .getCurrentParamIndex => answer (BitVec.ofNat 32 s.currentParam.val) s
  | .getParamName index => answer (nameCode index) s
  | .getParamValue index => answer (paramValue implementation index s) s
  | .isParamLocked => answer (boolWord s.locked) s

/-- Every command answers a next state: its effect if it is NOP or INIT or the CORE is initialized, a NOT_INITIALIZED
fault otherwise. -/
theorem exec_next (i : Instr) (s : State) :
    exec i s = .next (if i = .nop ∨ i = .init ∨ s.initDone = true then effect i s
      else raiseFault .notInitialized s) := by
  cases i <;> simp [exec, effect, execNop, execInit, execProcess, execUpdateControls, execRandomize, execReset,
    execIsMuted, execGetCurrentParamIndex, execGetParamName, execGetParamValue, execIsParamLocked, whenInitialized]

/-- An unmuted PROCESS after INIT answers its frame. -/
theorem execProcess_unmuted {s : State} (h : s.initDone = true) (hm : s.muted = false) :
    exec .process s = .next (frame implementation s) := by
  simp [exec_next, h, effect, processFrame, hm]

/-- The two ends of a control tick's knob step. -/
theorem knobTick_cases (cfg : Params) (k : Word) (s : State) :
    knobTick cfg k s = s ∨ knobTick cfg k s = unlock s ∨
      (s.locked = false ∧ knobTick cfg k s = writeSlot cfg k s) := by
  unfold knobTick
  split
  · split
    · exact .inr (.inl rfl)
    · exact .inl rfl
  · rename_i h
    exact .inr (.inr ⟨by simpa using h, rfl⟩)

/-- The two ends of INIT. -/
theorem initFromData_cases (cfg : Params) (s : State) :
    (validRate s.data = true ∧ initFromData cfg s = initState cfg s.data s) ∨
      (validRate s.data = false ∧ initFromData cfg s = raiseFault .badSampleRate s) := by
  unfold initFromData
  cases h : validRate s.data <;> simp

/-! ## The port -/

theorem command_ok {w : Word} {i : Instr} (h : decode w = .ok i) (s : State) : command w s = exec i s := by
  simp [command, h]

theorem command_illegal {w : Word} {e : IllegalWord} (h : decode w = .error e) (s : State) :
    command w s = .next (raiseFault .illegalCommand s) := by simp [command, h]

/-- What a word written to CMD can do: fault as illegal, fault as too early, or have a command's effect. -/
theorem command_cases {w : Word} {s t : State} (h : command w s = .next t) :
    (∃ r, t = raiseFault r s) ∨
      (∃ i, decode w = .ok i ∧ (i = .nop ∨ i = .init ∨ s.initDone = true) ∧ t = effect i s) := by
  cases hd : decode w with
  | error e =>
    rw [command_illegal hd] at h
    cases h
    exact .inl ⟨_, rfl⟩
  | ok i =>
    rw [command_ok hd, exec_next] at h
    cases h
    split
    · rename_i hg
      exact .inr ⟨i, rfl, hg, rfl⟩
    · exact .inl ⟨_, rfl⟩

theorem commandWrite_served (w : Word) (s : State) : serve (commandWrite w) s = command w s := by
  simp [serve, commandWrite, checkAccess, windowSize, alignedWord, writeRegister]

/-- What a write served at the port can do. -/
theorem writeRegister_cases {o : Nat} {w : Word} {s t : State} (h : writeRegister o w s = .next t) :
    (o = 0 ∧ command w s = .next t) ∨ (o = 4 ∧ t = { s with data := w }) ∨
      t = raiseFault .writeToReadonlyOrReserved s := by
  unfold writeRegister at h
  split at h
  · exact .inl ⟨rfl, h⟩
  · cases h; exact .inr (.inl ⟨rfl, rfl⟩)
  · cases h; exact .inr (.inr rfl)

theorem checkAccess_next {o n : Nat} {r : Host.Outcome State Fault Refusal} {t : State}
    (h : checkAccess o n r = .next t) : r = .next t := by
  unfold checkAccess at h
  split at h
  · cases h
  · split at h
    · exact h
    · cases h

/-- What a step can do when it answers a next state: hold, answer a read, take a word into DATA, fault, or have one
command's effect. In every case but the first the access leaves the bus. -/
theorem step_cases {s t : State} (h : step s = .next t) :
    (s.hostBus = [] ∧ t = s) ∨
      ∃ a rest, s.hostBus = a :: rest ∧
        ((∃ o, t = { s with hostBus := rest, readData := some (readRegister { s with hostBus := rest } o) }) ∨
          (∃ w, t = { s with hostBus := rest, data := w }) ∨
          (∃ r, t = raiseFault r { s with hostBus := rest }) ∨
          (∃ i w, decode w = .ok i ∧ (i = .nop ∨ i = .init ∨ s.initDone = true) ∧
            t = effect i { s with hostBus := rest })) := by
  unfold step serveNext at h
  split at h
  · rename_i hb
    cases h
    exact .inl ⟨hb, rfl⟩
  · rename_i a rest hb
    refine .inr ⟨a, rest, hb, ?_⟩
    cases a with
    | read o n =>
      have := checkAccess_next h
      cases this
      exact .inl ⟨o, rfl⟩
    | write o n v =>
      rcases writeRegister_cases (checkAccess_next h) with ⟨-, hc⟩ | ⟨-, rfl⟩ | rfl
      · rcases command_cases hc with ⟨r, rfl⟩ | ⟨i, hd, hg, rfl⟩
        · exact .inr (.inr (.inl ⟨r, rfl⟩))
        · exact .inr (.inr (.inr ⟨i, v, hd, hg, rfl⟩))
      · exact .inr (.inl ⟨v, rfl⟩)
      · exact .inr (.inr (.inl ⟨_, rfl⟩))

end Sys2Proof.Machine
end

