-- ==== Sys2Proof/Tests/Slice0.lean ====
section
/-! SUPPORT. Tests on fixed values, each from 95_test_vectors.md (named in its comment), and a witness for the
hypotheses of each statement that has some. -/

namespace Sys2Proof.Tests

open Sys2Proof Sys2Proof.Machine Sys2Proof.F32

/-! ## Well-formedness and decoding -/

theorem test_delta_above_range_ill_formed : Instr.wellFormed (.updateControls 128 false) = false := by decide

theorem test_delta_below_range_ill_formed : Instr.wellFormed (.updateControls (-129) true) = false := by decide

theorem test_name_index_ill_formed : Instr.wellFormed (.getParamName 256) = false := by decide

theorem test_value_index_ill_formed : Instr.wellFormed (.getParamValue 256) = false := by decide

theorem test_edges_well_formed :
    Instr.wellFormed (.updateControls (-128) true) = true ∧ Instr.wellFormed (.updateControls 127 false) = true ∧
    Instr.wellFormed (.getParamName 255) = true ∧ Instr.wellFormed (.getParamValue 255) = true := by decide

/-- Section 3.1, X1 to X12: a word for each command, written by its fields OP, Z1, IDX, Z2, M (R110). -/
theorem test_decode_each_command :
    decode 0b0000_0000_00000000_000000000000000_0#32 = .ok .nop ∧
    decode 0b0001_0000_00000000_000000000000000_0#32 = .ok .init ∧
    decode 0b0010_0000_00000000_000000000000000_0#32 = .ok .process ∧
    decode 0b0011_0000_11111101_000000000000000_1#32 = .ok (.updateControls (-3) true) ∧
    decode 0b0100_0000_00000000_000000000000000_0#32 = .ok .randomize ∧
    decode 0b0101_0000_00000000_000000000000000_0#32 = .ok .reset ∧
    decode 0b0110_0000_00000000_000000000000000_0#32 = .ok .isMuted ∧
    decode 0b0111_0000_00000000_000000000000000_0#32 = .ok .getCurrentParamIndex ∧
    decode 0b1000_0000_00000111_000000000000000_0#32 = .ok (.getParamName 7) ∧
    decode 0b1001_0000_00000010_000000000000000_0#32 = .ok (.getParamValue 2) ∧
    decode 0b1010_0000_00000000_000000000000000_0#32 = .ok .isParamLocked := by decide

/-- Section 3.1, X13 to X24. -/
theorem test_decode_illegal_words :
    decode 0x00000001#32 = .error .fieldNotZero ∧ decode 0x10000001#32 = .error .fieldNotZero ∧
    decode 0x21000000#32 = .error .fieldNotZero ∧ decode 0x30000002#32 = .error .fieldNotZero ∧
    decode 0x30008000#32 = .error .fieldNotZero ∧ decode 0x31000000#32 = .error .fieldNotZero ∧
    decode 0x80000001#32 = .error .fieldNotZero ∧ decode 0x8F000000#32 = .error .fieldNotZero ∧
    decode 0x60010000#32 = .error .fieldNotZero ∧ decode 0xB0000000#32 = .error .reservedOpcode ∧
    decode 0xF0000000#32 = .error .reservedOpcode ∧ decode 0xFFFFFFFF#32 = .error .reservedOpcode := by decide

/-- Section 3.2: words of the assembler. -/
theorem test_assembled_words :
    assemble (.update (-3) false 0x3F666666#32) = [.write 4 4 0x3F666666#32, .write 0 4 0x30FD0000#32] ∧
    assemble (.update (-128) false 0#32) = [.write 4 4 0#32, .write 0 4 0x30800000#32] ∧
    assemble (.getname 200) = [.write 0 4 0x80C80000#32] ∧ assemble (.getval 14) = [.write 0 4 0x900E0000#32] ∧
    assembleAll (expandPseudo (.togglemute 0x3F800000#32)) =
      [.write 4 4 0x3F800000#32, .write 0 4 0x30000001#32] := by decide

/-- Section 3.2, rows 2 and 6, and section 7's `select`, from their text. -/
theorem test_assembled_text :
    readLine ['u', 'p', 'd', 'a', 't', 'e', ' ', '-', '3', ',', ' ', '0', ',', ' ', '0', '.', '9', ' ', ';', 'x'] =
      some [.update (-3) false 0x3F666666#32] ∧
    assembleText ['t', 'o', 'g', 'g', 'l', 'e', 'm', 'u', 't', 'e', ' ', '1', '.', '0', '\n', 'r', 'd', ' ',
      'S', 'T', 'A', 'T', 'U', 'S'] =
      some [.write 4 4 0x3F800000#32, .write 0 4 0x30000001#32, .read 20 4] ∧
    readLine ['i', 'n', 'i', 't', ' ', '4', '8', '0', '0', '0'] = some [.init 0x473B8000#32] ∧
    readLine ['i', 'n', 'i', 't', ' ', '0', 'x', '7', 'F', 'c', '0', '0', '0', '0', '0'] =
      some [.init 0x7FC00000#32] ∧
    readLine ['g', 'e', 't', 'v', 'a', 'l', ' ', '2', '5', '6'] = none := by decide +kernel

/-! ## States -/

/-- Power-up with the CORE marked initialized and `k` in DATA: enough for a controller command. -/
def ready (k : Word) : State := { State.reset with initDone := true, data := k }

/-- `ready` with slot 2 selected and LOCKED at `r`. -/
def lockedAt (r k : Word) : State :=
  { ready k with currentParam := 2, locked := true, lockReference := r, params := Vector.replicate 14 0x3F000000#32 }

/-- After `init 48000` in the default configuration, DAMP_A written as vector E40 gives it. -/
def booted : State := { initState defaultConfiguration 0x473B8000#32 State.reset with dampA := 0x3F1999CA#32 }

/-- One field of the state a step leaves. -/
def field (o : Host.Outcome State Fault Refusal) (f : State → Word) : Option Word :=
  match o with
  | .next t => some (f t)
  | .fault _ => none
  | .refused _ => none

/-- Power-up with one access on the bus. -/
def bus (a : HostAccess) : State := { State.reset with hostBus := [a] }

/-! ## Commands -/

/-- F2. -/
theorem test_nop_before_init : exec .nop State.reset = .next State.reset := rfl

/-- F3, F4, F5, F6: rates INIT refuses. -/
theorem test_init_bad_rates :
    validRate 0x00000000#32 = false ∧ validRate 0x7FC00000#32 = false ∧ validRate 0x7F800000#32 = false ∧
    validRate 0x3F000000#32 = false ∧ validRate 0x80000000#32 = false := by decide

/-- F7: rate 1.0 is valid, and leaves STATUS (1, 0). -/
theorem test_init_rate_one :
    field (exec .init { State.reset with data := 0x3F800000#32 }) statusWord = some 0x00000001#32 := by
  decide

/-- F1. -/
theorem test_process_before_init : field (exec .process State.reset) statusWord = some 0x00000002#32 := by decide

/-- P6 step 3. -/
theorem test_process_muted :
    field (exec .process { ready 0#32 with muted := true, outL := 1#32, phWob := 5#32 })
      (fun t => t.outL ||| t.outR ||| t.phWob) = some 5#32 := by decide

/-- C8, C7: the selection; a multiple of 14 still locks. -/
theorem test_update_selection :
    field (exec (.updateControls (-128) false) (ready 0#32)) (fun t => BitVec.ofNat 32 t.currentParam.val)
      = some 12#32 ∧
    field (exec (.updateControls 14 false) (ready 0x3F000000#32)) (fun t => boolWord t.locked) = some 1#32 := by
  decide

/-- C14, C15, C16: a difference equal to 0.15 stays LOCKED, one above it unlocks, a NaN knob is 0. -/
theorem test_update_unlock_threshold :
    field (exec (.updateControls 0 false) (lockedAt 0x3E99999A#32 0x3E19999A#32)) (fun t => boolWord t.locked)
      = some 1#32 ∧
    field (exec (.updateControls 0 false) (lockedAt 0#32 0x3E1999DD#32)) (fun t => boolWord t.locked)
      = some 0#32 ∧
    field (exec (.updateControls 0 false) (lockedAt 0x3F000000#32 0x7FC00000#32)) (fun t => boolWord t.locked)
      = some 0#32 := by decide

/-- C17: RESET keeps the selection and the lock reference. -/
theorem test_reset_keeps_selection :
    field (exec .reset (lockedAt 0x3F666666#32 0#32))
      (fun t => t.lockReference ||| BitVec.ofNat 32 t.currentParam.val ||| boolWord t.locked)
      = some 0x3F666666#32 := by decide

/-- R199: RANDOMIZE keeps the lock and the selection. -/
theorem test_randomize_keeps_lock :
    field (exec .randomize (lockedAt 0x3F666666#32 0#32))
      (fun t => boolWord t.locked ||| BitVec.ofNat 32 t.currentParam.val) = some 3#32 := by decide

/-- C23, C24: the flags. -/
theorem test_flag_getters :
    field (exec .isMuted { ready 0#32 with muted := true }) State.result = some 1#32 ∧
    field (exec .isMuted (ready 0#32)) State.result = some 0#32 ∧
    field (exec .isParamLocked (lockedAt 0#32 0#32)) State.result = some 1#32 := by decide

/-- P1 step 9. -/
theorem test_index_getter :
    field (exec .getCurrentParamIndex { ready 0#32 with currentParam := 13 }) State.result
      = some 0x0000000D#32 := by decide

/-- C20, C21. -/
theorem test_name_getter :
    field (exec (.getParamName 7) (ready 0#32)) State.result = some 7#32 ∧
    field (exec (.getParamName 14) (ready 0#32)) State.result = some 0xFFFFFFFF#32 ∧
    field (exec (.getParamName 200) (ready 0#32)) State.result = some 0xFFFFFFFF#32 ∧
    nameOfCode 7#32 = some "reverb-amount" ∧ nameOfCode 0xFFFFFFFF#32 = some "Unknown" := by decide

/-- C22, and a stored slot. -/
theorem test_value_getter :
    field (exec (.getParamValue 14) (ready 0#32)) State.result = some 0#32 ∧
    field (exec (.getParamValue 2) (lockedAt 0#32 0#32)) State.result = some 0x3F000000#32 := by decide

/-! ## The port -/

/-- F9, F10, F11, F12. -/
theorem test_port :
    field (step (bus (.write 0 4 0xB0000000#32))) statusWord = some 2#32 ∧
    field (step (bus (.write 0x14 4 0#32))) statusWord = some 2#32 ∧
    field (step (bus (.read 0x40 4))) (fun t => t.readData.getD 1#32) = some 0#32 ∧
    field (step (bus (.read 0 4))) (fun t => t.readData.getD 1#32) = some 0#32 ∧
    field (step (bus (.read 0xFC 4))) statusWord = some 0#32 := by decide

theorem test_port_stops :
    step (bus (.read 4 2)) = .refused .accessNotAlignedWord ∧
    step (bus (.read 0x100 4)) = .fault .outsideRegisterBlock := ⟨rfl, rfl⟩

/-- A placed word is the next one to run. -/
theorem test_with_fetch_word :
    field (step ((ready 0#32).withFetchWord 32 0x80070000)) State.result = some 7#32 := by decide

/-! ## Values in the default configuration -/

/-- C1, C2, C9, C12: the forward mapping of slot 0, with the entry clamp. -/
theorem test_forward_frequency :
    (controlTick defaultConfiguration 0 false (ready 0x3F000000#32)).params[0] = 0x440F8DE1#32 ∧
    (controlTick defaultConfiguration 0 false (ready 0x40000000#32)).params[0] = 0x45BB5800#32 ∧
    (controlTick defaultConfiguration 0 false (ready 0x80000000#32)).params[0] = 0x425C0000#32 := by
  decide +kernel

/-- C2, C19: the inverse mapping of slot 0. -/
theorem test_inverse_frequency :
    inverse defaultConfiguration 0 0x45BB5800#32 = 0x3F800000#32 ∧
    inverse defaultConfiguration 0 0x435C0000#32 = 0x3E974BCF#32 := by decide +kernel

/-- E40. -/
theorem test_damp_coefficient : dampCoefficient defaultConfiguration 0x473B8000#32 = 0x3F1999CA#32 := by
  decide +kernel

/-- P4 frame 1. -/
theorem test_square_frame :
    let t := processFrame defaultConfiguration { booted with params := booted.params.set 1 0x3F800000#32 }
    t.outL = 0x3E75C2DD#32 ∧ t.outR = 0x3E75C2DD#32 ∧ t.left.phA = 0x3B962FC9#32 ∧ t.phWob = 0x360BCF65#32 ∧
      t.phSwp = 0x34DFB23B#32 := by decide +kernel

/-- V40, V43: the pitch path at the first frame. -/
theorem test_pitch :
    let p := modulate defaultConfiguration 0x473B8000#32
      (snapshot ((booted.params.set 0 0x43DC0000#32).set 6 0x3F800000#32)) 0#32 0#32
    let q := modulate defaultConfiguration 0x473B8000#32
      (snapshot ((booted.params.set 0 0x43DC0000#32).set 12 0x3F800000#32)) 0#32 0#32
    p.fLeft = 0x43D10000#32 ∧ p.fRight = 0x43E70000#32 ∧ q.fLeft = 0x435C0000#32 := by decide +kernel

/-- V5, V2: the base waveforms. -/
theorem test_waveforms :
    sineWave defaultConfiguration 0x3F000000#32 = 0xB3BBBD2E#32 ∧ triangleWave 0x3F000000#32 = 0x3F800000#32 ∧
    sawWave 0x3F000000#32 = 0xBF800000#32 ∧ squareWave 0x3F000000#32 = 0xBF4CCCCD#32 ∧
    triangleWave 0x3E000000#32 = 0xBF000000#32 := by decide +kernel

/-- V18, V19: the morph indexes. -/
theorem test_morph_index :
    morphIndex 0x3F666666#32 = { ia := 2, ib := 3, fr := 0x3F333330#32 } ∧
    morphIndex 0x3F800000#32 = { ia := 3, ib := 3, fr := 0#32 } := by decide

/-- E3, E6: the drive. -/
theorem test_drive :
    drive defaultConfiguration (snapshot (booted.params.set 4 0x3C23D70A#32)) 0x3F000000#32 = 0x3F00443C#32 ∧
    drive defaultConfiguration (snapshot (booted.params.set 4 0x3F800000#32)) 0xBF4CCCCD#32 = 0xBF6F7669#32 := by decide

/-- E11: the phaser. -/
theorem test_phaser :
    defaultPhaserStep 0x473B8000#32 defaultConfiguration.phaserInit 0x3F800000#32 0x3F800000#32 0x40200000#32 =
      (0x3F4BC4BA#32, [0x385A740E#32, 0x3E6C286C#32, 0xBE4F24D4#32, 0x3E35B1C8#32, 0xBE1F5F2C#32]) := by
  decide +kernel

/-- E32: the filter. -/
theorem test_filter :
    defaultSvfStep 0x473B8000#32 defaultConfiguration.svfInit 0x3F800000#32 0x45FB9000#32 0x3DCCCCCD#32 .hp =
      (0x3ED6A14A#32, [0x3EF9B5C6#32, 0x3E914307#32]) := by decide +kernel

/-- E14, E16, E19b: the filter branches. -/
theorem test_filter_branch :
    filterBranch 0x3E4CCCCD#32 = some (0x458E038F#32, .lp) ∧ filterBranch 0x3EE66666#32 = none ∧
    filterBranch 0x3F800000#32 = some (0x45FB9000#32, .hp) := by decide

/-- E22, E23, E26, E30: the limiter. -/
theorem test_limiter :
    limit 0x3F666666#32 = 0x3F666666#32 ∧ limit 0x3F666667#32 = 0x3F666666#32 ∧
    limit 0xBF800000#32 = 0xBF68F5C2#32 ∧ limit 0x7F800000#32 = 0x7F800000#32 := by decide

/-- Sections 6.1 and 6.2: lengths, and R5 of the offsets. -/
theorem test_comb_lengths :
    combLength defaultConfiguration .left 1 15 = 1173 ∧ combLength defaultConfiguration .right 1 15 = 1226 ∧
    combLength defaultConfiguration .right 0 (-15) = 1154 ∧ apLength defaultConfiguration .right 3 = 579 ∧
    modOffset defaultConfiguration (snapshot (booted.params.set 7 0x3C23D70A#32)) 0x3F400000#32 = -1 := by
  decide +kernel

/-- Section 6.3, R12 and R16. -/
theorem test_reverb_mix :
    feedbackOf (snapshot booted.params) = 0x3F570A3D#32 ∧ dampingOf (snapshot booted.params) = 0x3E4CCCCD#32 ∧
    mix 0x3F000000#32 0x40000000#32 0x3F800000#32 = 0x3E8F5C29#32 := by decide

/-- P5 frame 1: the reverb on. -/
theorem test_reverb_frame :
    let t := processFrame defaultConfiguration
      { booted with params := (booted.params.set 1 0x3F800000#32).set 7 0x3F000000#32 }
    t.outL = 0x3E385226#32 ∧ t.outR = 0x3E385226#32 ∧ t.phRev = 0x36D1B718#32 ∧
      bufRead (t.left.comb[0]).buf 0 = 0x3EF5C2DD#32 := by decide +kernel

/-- Section 6.4 in small: a line of capacity 4 and length 2 delays by two writes. -/
theorem test_delay_line :
    let w := memWrite 4 0x40000000#32 (memWrite 4 0x3F800000#32 (freshLine 2))
    memRead 4 w = 0x3F800000#32 ∧ memRead 4 (setLength 1 w) = 0x40000000#32 ∧
      memRead 4 (setLength 3 w) = 0#32 := by decide

/-! ## Witnesses: each statement's hypotheses, met together -/

/-- A step that serves a command word answers a next state. -/
theorem command_answers {s : State} {w : Word} {i : Instr} {rest : List HostAccess} (hd : decode w = .ok i)
    (hb : s.hostBus = commandWrite w :: rest) : ∃ t, step s = .next t := by
  simp only [step, serveNext, hb, commandWrite_served]
  exact ⟨_, (command_ok hd _).trans (exec_next i _)⟩

theorem witness_DecodeEncodeRoundTrip :
    Instr.wellFormed .nop = true ∧ Instr.wellFormed (.updateControls (-128) true) = true ∧
    Instr.wellFormed (.getParamValue 255) = true := by decide

theorem witness_DecodeAcceptsOnlyEncodings : decode 0x307F0001#32 = .ok (.updateControls 127 true) := by decide

theorem witness_IllegalWordFaultsAndChangesNothingElse :
    illegalWord 0xB0000000#32 ∧ illegalWord 0x00000001#32 ∧ illegalWord 0x31000000#32 ∧
    ¬ illegalWord 0x30FF0001#32 ∧ ¬ illegalWord 0x90FF0000#32 := by
  unfold illegalWord
  decide

theorem witness_AssembledUpdateRuns :
    asmLegal (.update (-128) true 0x3F000000#32) = true ∧
    { State.reset with hostBus := assemble (.update (-128) true 0x3F000000#32) }.hostBus =
      assemble (.update (-128) true 0x3F000000#32) ++ [] := by decide

theorem witness_StepRunsTheDecodedCommand :
    (bus (commandWrite 0x40000000#32)).hostBus = commandWrite 0x40000000#32 :: [] ∧
    decode 0x40000000#32 = .ok .randomize := by decide

theorem witness_HostReadReturnsRegister :
    (bus (.read 20 4)).hostBus = .read 20 4 :: [] ∧ 20 % 4 = 0 ∧ 20 < 256 ∧
    (bus (.read 0 4)).hostBus = .read 0 4 :: [] ∧ (bus (.read 252 4)).hostBus = .read 252 4 :: [] := by decide

theorem witness_WritesOfOtherRegisters :
    (bus (.write 8 4 7#32)).hostBus = .write 8 4 7#32 :: [] ∧ 8 % 4 = 0 ∧ 8 ≤ 8 ∧
    (bus (.write 252 4 7#32)).hostBus = .write 252 4 7#32 :: [] ∧ 252 % 4 = 0 ∧ 252 < 256 ∧
    (bus (.write 4 4 7#32)).hostBus = .write 4 4 7#32 :: [] := by decide

theorem witness_UnalignedOrNarrowAccessRefused :
    (bus (.read 255 4)).hostBus = .read 255 4 :: [] ∧ 255 < 256 ∧ (4 ≠ 4 ∨ 255 % 4 ≠ 0) ∧
    (bus (.write 0 2 0#32)).hostBus = .write 0 2 0#32 :: [] ∧ (2 ≠ 4 ∨ 0 % 4 ≠ 0) := by decide

theorem witness_StepNeverClearsStatus :
    ∃ t, step { ready 0#32 with err := true } = .next t ∧ { ready 0#32 with err := true }.initDone = true ∧
      { ready 0#32 with err := true }.err = true := ⟨_, rfl, rfl, rfl⟩

theorem witness_AlignedAccessIsAlwaysServed :
    (bus (.write 0 4 0xFFFFFFFF#32)).hostBus = .write 0 4 0xFFFFFFFF#32 :: [] ∧ 0 % 4 = 0 ∧
    (bus (.read 252 4)).hostBus = .read 252 4 :: [] ∧ 252 % 4 = 0 ∧ State.reset.hostBus = [] := by decide

theorem witness_CommandBeforeInitFaults :
    State.reset.initDone = false ∧ Instr.process ≠ .nop ∧ Instr.process ≠ .init := by decide

theorem witness_FaultPriorityAndPrecision :
    decode 0xB0000000#32 = .error .reservedOpcode ∧
    (decode 0x20000000#32 = .ok .process ∧ State.reset.initDone = false) ∧
    (decode 0x10000000#32 = .ok .init ∧ validRate State.reset.data = false) ∧
    validRate (ready 0x3F800000#32).data = true ∧ (ready 0#32).initDone = true ∧
    commandFault 0x20000000#32 State.reset = some .notInitialized ∧
    commandFault 0x20000000#32 (ready 0#32) = none := by decide

/-- Two states that differ in what R52 leaves unspecified. -/
theorem witness_PowerUpValuesAreNeverObserved :
    let s := { bus (commandWrite 0x10000000#32) with data := 0x3F800000#32 }
    let s' := { s with fs := 9#32, locked := true, phRev := 3#32 }
    s.initDone = false ∧ s'.initDone = false ∧ PortsAgree s s' ∧ s ≠ s' ∧
      (∃ t, step s = .next t) ∧ ∃ t', step s' = .next t' := by
  refine ⟨rfl, rfl, ⟨rfl, rfl, rfl, rfl, rfl, rfl, rfl, rfl⟩, ?_, command_answers (i := .init) (by decide) rfl,
    command_answers (i := .init) (by decide) rfl⟩
  intro h
  exact absurd (congrArg State.fs h) (by decide)

theorem witness_InitSetsEveryElement :
    le 0x3F800000#32 (ready 0x3F800000#32).data = true ∧ lt (ready 0x3F800000#32).data 0x7F800000#32 = true ∧
    le 0x3F800000#32 (ready 0x7F7FFFFF#32).data = true ∧ lt (ready 0x7F7FFFFF#32).data 0x7F800000#32 = true ∧
    le 0x3F800000#32 (ready 0x3F7FFFFF#32).data = false ∧ lt (ready 0x7F800000#32).data 0x7F800000#32 = false := by
  decide

theorem witness_InitFaultsOnBadRate :
    isNaN (ready 0x7FC00000#32).data = true ∧ isInf (ready 0xFF800000#32).data = true ∧
    lt (ready 0x3F7FFFFF#32).data 0x3F800000#32 = true := by decide

theorem witness_OnlyInitChangesRateAndOnlyProcessTheDatapath :
    (∃ t, exec .process (ready 0#32) = .next t) ∧ (∃ t, exec .isMuted (ready 0#32) = .next t) ∧
    Instr.process ≠ .init ∧ Instr.isMuted ≠ .init ∧ Instr.isMuted ≠ .process :=
  ⟨⟨_, exec_next _ _⟩, ⟨_, exec_next _ _⟩, by decide, by decide, by decide⟩

theorem witness_NopLeavesTheState : (0x0FFFFFFF#32).toNat / 2 ^ 28 = 0 ∧ 0x0FFFFFFF#32 ≠ 0#32 := by decide

theorem witness_SelectionTickLocksAndWritesNoSlot : (ready 0#32).initDone = true ∧ (-128 : Int) ≠ 0 := by decide

theorem witness_LockedTickOnlyMayUnlock :
    (lockedAt 0#32 0#32).initDone = true ∧ (lockedAt 0#32 0#32).locked = true := by decide

theorem witness_UnlockedTickWritesSelectedSlot :
    (ready 0#32).initDone = true ∧ (ready 0#32).locked = false ∧ (ready 0#32).currentParam = 0 ∧
    { ready 0#32 with currentParam := 13 }.locked = false := by decide

/-- Knobs within 0.15 of the reference, one just beyond it, at both clauses. -/
theorem witness_LockHoldsUntilKnobMoves :
    (lockedAt 0x3E99999A#32 0#32).initDone = true ∧ (lockedAt 0x3E99999A#32 0#32).locked = true ∧
    (∀ k ∈ [0x3EE66666#32, 0x3E19999A#32],
      gt (fabs (sub (knobIn k) (lockedAt 0x3E99999A#32 0#32).lockReference)) 0x3E19999A#32 = false) ∧
    gt (fabs (sub (knobIn 0x3F000000#32) (lockedAt 0x3E99999A#32 0#32).lockReference)) 0x3E19999A#32 = true := by
  refine ⟨rfl, rfl, List.forall_mem_cons.2 ⟨?_, List.forall_mem_cons.2 ⟨?_, List.forall_mem_nil _⟩⟩, ?_⟩ <;>
    decide

/-- Each writer changes the store somewhere. -/
theorem witness_OnlyControlCommandsWriteTheStore :
    ∃ t, exec (.updateControls 0 false) { ready 0x3F000000#32 with currentParam := 2 } = .next t ∧
      t.params ≠ (ready 0x3F000000#32).params :=
  ⟨_, rfl, by decide⟩

/-- RANDOMIZE, RESET, the getters and PROCESS ask for INIT_DONE alone. -/
theorem witness_RandomizeStaysInSubRanges : (ready 0#32).initDone = true := by decide

theorem witness_ResetRestoresDefaultsOnly : (lockedAt 0#32 0#32).initDone = true := by decide

theorem witness_FlagAndIndexGetters : { ready 0#32 with currentParam := 13 }.initDone = true := by decide

theorem witness_NameGetterAnswersCodeOrSentinel : (0 : Nat) < 256 ∧ 255 < 256 ∧ (ready 0#32).initDone = true := by
  decide

theorem witness_ValueGetterAnswersNormalizedValue :
    (13 : Fin 14) ≠ 0 ∧ 14 ≤ 14 ∧ 14 ≤ 255 ∧ (ready 0#32).initDone = true := by decide

theorem witness_MutedFrameIsSilentAndFrozen :
    { ready 0#32 with muted := true }.initDone = true ∧ { ready 0#32 with muted := true }.muted = true := by decide

theorem witness_ProcessWritesOutputsAndDatapathOnly : booted.initDone = true := by decide

theorem witness_FrameAdvancesEachOscillatorOnce :
    booted.initDone = true ∧ booted.muted = false ∧ { booted with muted := true }.muted = true ∧
    (∃ t, exec .reset booted = .next t) ∧ Instr.reset ≠ .process ∧ ∃ t, exec .init booted = .next t :=
  ⟨by decide, by decide, by decide, ⟨_, exec_next _ _⟩, by decide, ⟨_, exec_next _ _⟩⟩

theorem witness_FrameAdvancesBothLfos : booted.initDone = true ∧ booted.muted = false := by decide

/-- The default patch takes every bypass. -/
theorem witness_AllBypassedFrame :
    booted.initDone = true ∧ booted.muted = false ∧ lt booted.params[4] 0x3C23D70A#32 = true ∧
    lt booted.params[5] 0x3C23D70A#32 = true ∧ inRange 0x3EE66666#32 0x3F0CCCCD#32 booted.params[3] ∧
    lt booted.params[7] 0x3C23D70A#32 = true := by decide

/-- Every stage active, in the low-pass and in the high-pass branch. -/
theorem witness_ChainStagesActInOrder :
    { booted with params := Vector.replicate 14 0x3E800000#32 }.initDone = true ∧
    { booted with params := Vector.replicate 14 0x3E800000#32 }.muted = false ∧
    lt 0x3E800000#32 0x3C23D70A#32 = false ∧ lt 0x3E800000#32 0x3EE66666#32 = true ∧
    lt 0x3F0CCCCD#32 0x3F400000#32 = true ∧ booted.initDone = true ∧ booted.muted = false := by decide

theorem witness_BypassedReverbIsIdentityAndFrozen :
    booted.initDone = true ∧ booted.muted = false ∧ lt booted.params[7] 0x3C23D70A#32 = true ∧
    lt (snapshot booted.params).rvAmt 0x3C23D70A#32 = true := by decide

/-- After INIT with the reverb at its threshold 0.01, which is not below it. -/
def reverbOn : State := { booted with params := booted.params.set 7 0x3C23D70A#32 }

theorem witness_CombLinesStepOnce :
    reverbOn.initDone = true ∧ reverbOn.muted = false ∧ lt reverbOn.params[7] 0x3C23D70A#32 = false ∧
    storageOk reverbOn := by
  refine ⟨by decide, by decide, by decide, ?_⟩
  intro c
  cases c <;> exact ⟨by decide, by decide⟩

theorem witness_AllPassLinesStepOnce :
    reverbOn.initDone = true ∧ reverbOn.muted = false ∧ lt reverbOn.params[7] 0x3C23D70A#32 = false ∧
    storageOk reverbOn := witness_CombLinesStepOnce

theorem witness_ChannelsAreIndependent :
    ∃ t t', exec .process booted = .next t ∧
      exec .process { booted with right := ChannelState.powerUp } = .next t' ∧
      ChannelState.powerUp ≠ booted.right :=
  ⟨_, _, exec_next _ _, exec_next _ _, by decide⟩

theorem witness_ChannelFrequenciesAreClamped :
    inRange 0x41A00000#32 0x463B8000#32 0x41A00000#32 ∧ inRange 0x41A00000#32 0x463B8000#32 0x463B8000#32 := by
  decide

theorem witness_NoDetuneGivesEqualFrequencies : (snapshot booted.params).detune = 0x00000000#32 := by decide

theorem witness_PhaseStaysInUnitInterval :
    validRate 0x3F800000#32 = true ∧ inRange 0x00000000#32 0x463B8000#32 0x463B8000#32 ∧
    phaseOk 0x3F7FFFFF#32 ∧ inRange 0x00000000#32 0x463B8000#32 0x00000000#32 ∧ phaseOk 0x00000000#32 := by
  decide

theorem witness_ArithmeticWaveformsStayInRange :
    phaseOk 0x3F000000#32 ∧ phaseOk 0x3F7FFFFF#32 ∧ 1 ≤ 1 ∧ 1 ≤ 3 ∧ 3 ≤ 3 := by decide

theorem witness_MorphIndexesAreAdjacent :
    (0x00000000#32).toNat ≤ 0x3F800000 ∧ (0x3F800000#32).toNat ≤ 0x3F800000 := by decide

/-- The square at phase 0.5, which the voice gives at waveform value 1; and two bare samples. -/
theorem witness_MorphAtIntegerPointIsExact :
    (morphIndex 0x3F800000#32).fr = 0x00000000#32 ∧
    isFinite (baseWave implementation (waveformOf (morphIndex 0x3F800000#32).ia) 0x3F000000#32) = true ∧
    isFinite (baseWave implementation (waveformOf (morphIndex 0x3F800000#32).ib) 0x3F000000#32) = true ∧
    baseWave implementation (waveformOf (morphIndex 0x3F800000#32).ia) 0x3F000000#32 ≠ 0x80000000#32 ∧
    isFinite 0xBF4CCCCD#32 = true ∧ isFinite 0x00000000#32 = true ∧ 0xBF4CCCCD#32 ≠ 0x80000000#32 := by
  decide +kernel

theorem witness_FilterBranchesPartition :
    inRange 0x3EE66666#32 0x3F0CCCCD#32 (snapshot booted.params).filter ∧ isNaN 0x7FC00000#32 = true ∧
    filterBranch 0x3EE66665#32 = some (0x461DCFFF#32, .lp) ∧
    filterBranch 0x3F0CCCCE#32 = some (0x42480000#32, .hp) := by decide

theorem witness_LimiterShape :
    inRange 0xBF666666#32 0x3F666666#32 0xBF666666#32 ∧ inRange 0xBF666666#32 0x3F666666#32 0x3F666666#32 ∧
    lt 0x3F666666#32 0x3F666667#32 = true ∧ isNaN 0xFFC00000#32 = true := by decide

theorem witness_CombOffsetIsAtMost15 :
    (∀ x, inRange 0xBF800000#32 0x3F800000#32 ({ implementation with sin := fun _ => 0xBF800000#32 }.sin x)) ∧
    inRange 0x00000000#32 0x3F800000#32 (snapshot reverbOn.params).rvAmt := by
  refine ⟨fun _ => ?_, by decide⟩
  change inRange 0xBF800000#32 0x3F800000#32 0xBF800000#32
  decide

/-- Fewer writes than the length, and as many. -/
theorem witness_DelayLineDelaysByItsLength :
    1 ≤ 1750 ∧ 1750 ≤ 1750 ∧ (¬ 2 ≤ [(1, 5#32)].length) ∧ 1 ≤ [(1, 5#32)].length := by decide

/-- 1 + 2^-24, half-way between two values, and a third value as near. -/
theorem witness_OperatorsRoundToNearestEven :
    isFinite 0x3F800000#32 = true ∧ isFinite 0x33800000#32 = true ∧ isFinite 0x3F800001#32 = true ∧
    isFinite (add 0x3F800000#32 0x33800000#32) = true ∧ isFinite (sub 0x3F800000#32 0x33800000#32) = true ∧
    isFinite (mul 0x3F800000#32 0x33800000#32) = true ∧ isFinite (div 0x3F800000#32 0x33800000#32) = true ∧
    isZero 0x33800000#32 = false ∧
    |scaled (add 0x3F800000#32 0x33800000#32) - (scaled 0x3F800000#32 + scaled 0x33800000#32)| =
      |scaled 0x3F800001#32 - (scaled 0x3F800000#32 + scaled 0x33800000#32)| ∧
    scaled 0x3F800001#32 ≠ scaled (add 0x3F800000#32 0x33800000#32) := by decide

/-- The largest finite value and the half step that overflows it, and the next below; zeros; infinities; a NaN. -/
theorem witness_OperatorsSpecialOperands :
    isFinite 0x7F7FFFFF#32 = true ∧ isFinite 0x73000000#32 = true ∧ isFinite 0x72FFFFFF#32 = true ∧
    ¬ (|scaled 0x7F7FFFFF#32 + scaled 0x73000000#32| < overflowThreshold * |1|) ∧
    |scaled 0x7F7FFFFF#32 + scaled 0x72FFFFFF#32| < overflowThreshold * |1| ∧
    add 0x7F7FFFFF#32 0x73000000#32 = 0x7F800000#32 ∧ add 0x7F7FFFFF#32 0x72FFFFFF#32 = 0x7F7FFFFF#32 ∧
    scaled 0x80000000#32 + scaled 0x00000000#32 = 0 ∧ scaled 0x3F800000#32 - scaled 0x3F800000#32 = 0 ∧
    isZero 0x80000000#32 = true ∧ isZero 0x3F800000#32 = false ∧
    isInf 0x7F800000#32 = true ∧ isInf 0xFF800000#32 = true ∧ 0x7F800000#32 ≠ 0xFF800000#32 ∧
    isNaN 0x7F800001#32 = true := by decide +kernel

theorem witness_ComparisonsFollowValues :
    isFinite 0x80000000#32 = true ∧ isFinite 0x7F7FFFFF#32 = true ∧ isNaN 0x7F800001#32 = true := by decide

theorem witness_FloorIsLargestIntegralBelow :
    isFinite 0x80000001#32 = true ∧ isFinite 0x7F7FFFFF#32 = true := by decide

theorem witness_FracIsExactOnNonNegatives :
    isFinite 0x3FC00000#32 = true ∧ sign 0x3FC00000#32 = false ∧ isFinite 0x00000001#32 = true := by decide

/-- A state with the invariant from which a step runs a command. -/
theorem witness_StepKeepsTheInvariant :
    let s := bus (commandWrite 0x20000000#32)
    Inv s ∧ ∃ t, step s = .next t := by
  refine ⟨⟨?_, ?_, ?_, ?_, ?_, ?_⟩, command_answers (i := .process) (by decide) rfl⟩
  · intro c
    cases c <;> exact ⟨by decide, by decide⟩
  · intro h
    exact absurd h (by decide)
  · intro c
    cases c <;> rfl
  · intro h
    exact absurd h (by decide)
  · intro h
    exact absurd h (by decide)
  · refine ⟨by decide, by decide, by decide, fun c => ?_⟩
    cases c <;> exact ⟨by decide, by decide⟩

end Sys2Proof.Tests
end

section
/-! PROOFS. binary32 arithmetic (00_scope R13, R15) and the ranges of the parameters (R9): the statements O54 to O58.

The idea: magnitude bits number the magnitudes in rising order (`magOfBits_strictMono`), so rounding is a choice of
magnitude bits, and `roundMag` makes the nearest choice (`nearestBits_roundBits`). Everything about signs, overflow,
`floor` and `frac` follows from that and from the list of magnitudes that binary32 has (`Representable`). -/

namespace Sys2Proof.F32

open Sys2Proof.Machine

/-! ## Magnitudes and their bits -/

/-- The magnitude with the given magnitude bits, in units of 2^-149. Bits from 0x7F800000 on continue the series with
no bound on the exponent. -/
def magOfBits (m : Nat) : Nat :=
  if m / 2 ^ 23 = 0 then m % 2 ^ 23 else (2 ^ 23 + m % 2 ^ 23) * 2 ^ (m / 2 ^ 23 - 1)

theorem mag_eq_magOfBits (x : Word) : mag x = magOfBits (magBits x) := rfl

theorem magOfBits_of_lt {m : Nat} (h : m < 2 ^ 23) : magOfBits m = m := by
  rw [magOfBits, if_pos (by omega), Nat.mod_eq_of_lt h]

theorem magOfBits_normal (k : Nat) {r : Nat} (h : 2 ^ 23 ≤ r) (h' : r < 2 ^ 24) :
    magOfBits (k * 2 ^ 23 + r) = r * 2 ^ k := by
  have hdiv : (k * 2 ^ 23 + r) / 2 ^ 23 = k + 1 := by omega
  have hmod : 2 ^ 23 + (k * 2 ^ 23 + r) % 2 ^ 23 = r := by omega
  rw [magOfBits, hdiv, if_neg (Nat.succ_ne_zero k), hmod, Nat.add_sub_cancel]

/-- `k` exponents and the significand `r`; at `r = 2 ^ 24` the carry into the exponent keeps the value. -/
theorem magOfBits_eq (k : Nat) {r : Nat} (hlow : k = 0 ∨ 2 ^ 23 ≤ r) (hhigh : r ≤ 2 ^ 24) :
    magOfBits (k * 2 ^ 23 + r) = r * 2 ^ k := by
  rcases Nat.lt_or_ge r (2 ^ 23) with hr | hr
  · obtain rfl : k = 0 := by omega
    simpa using magOfBits_of_lt hr
  · rcases Nat.lt_or_eq_of_le hhigh with hlt | rfl
    · exact magOfBits_normal k hr hlt
    · have h := magOfBits_normal (k + 1) (le_refl (2 ^ 23)) (by norm_num)
      rw [show k * 2 ^ 23 + 2 ^ 24 = (k + 1) * 2 ^ 23 + 2 ^ 23 by ring, h]
      ring

/-- Every magnitude-bits number splits into dropped exponents and a significand of 24 bits. -/
theorem exists_significand (m : Nat) :
    ∃ k r : Nat, (k = 0 ∨ 2 ^ 23 ≤ r) ∧ r < 2 ^ 24 ∧ m = k * 2 ^ 23 + r := by
  rcases Nat.lt_or_ge m (2 ^ 23) with h | h
  · exact ⟨0, m, .inl rfl, by omega, by omega⟩
  · exact ⟨m / 2 ^ 23 - 1, 2 ^ 23 + m % 2 ^ 23, .inr (by omega), by omega, by omega⟩

theorem magOfBits_strictMono : StrictMono magOfBits := by
  refine strictMono_nat_of_lt_succ fun m => ?_
  obtain ⟨k, r, hlow, hhigh, rfl⟩ := exists_significand m
  rw [Nat.add_assoc, magOfBits_eq k hlow (by omega), magOfBits_eq k (by omega) (by omega)]
  exact Nat.mul_lt_mul_of_pos_right (by omega) (Nat.two_pow_pos k)

/-! ## `nearestEven` -/

theorem nearestEven_cases (n d : Nat) :
    (nearestEven n d = n / d ∧ (2 * (n % d) < d ∨ 2 * (n % d) = d ∧ n / d % 2 = 0)) ∨
    (nearestEven n d = n / d + 1 ∧ (d < 2 * (n % d) ∨ 2 * (n % d) = d ∧ n / d % 2 = 1)) := by
  simp only [nearestEven]
  split_ifs <;> omega

theorem nearestEven_nearest (n : Nat) {d : Nat} (hd : 0 < d) (z : Nat) :
    |(nearestEven n d * d : Int) - n| ≤ |(z * d : Int) - n| ∧
    (|(nearestEven n d * d : Int) - n| = |(z * d : Int) - n| → z ≠ nearestEven n d →
      nearestEven n d % 2 = 0) := by
  have hn := Nat.div_add_mod' n d
  have hmod := Nat.mod_lt n hd
  have hbelow : z + 1 ≤ n / d → z * d + d ≤ n / d * d := fun h => by
    simpa [Nat.add_mul] using Nat.mul_le_mul_right d h
  have habove : n / d + 2 ≤ z → n / d * d + 2 * d ≤ z * d := fun h => by
    simpa [Nat.add_mul] using Nat.mul_le_mul_right d h
  have hz : z + 1 ≤ n / d ∨ z = n / d ∨ z = n / d + 1 ∨ n / d + 2 ≤ z := by omega
  have hcases := nearestEven_cases n d
  generalize nearestEven n d = e at *
  generalize n / d = q at *
  generalize n % d = r at *
  rcases hcases with ⟨rfl, h⟩ | ⟨rfl, h⟩ <;> rcases hz with hz | rfl | rfl | hz <;>
    simp only [abs_eq_max_neg, ← Nat.cast_mul, Nat.add_mul] at * <;> omega

theorem nearestEven_le_of_le_mul {n d z : Nat} (hd : 0 < d) (h : n ≤ z * d) : nearestEven n d ≤ z := by
  have hdiv := Nat.div_add_mod' n d
  have hq : n / d ≤ z := Nat.div_le_of_le_mul (by rwa [Nat.mul_comm])
  rcases nearestEven_cases n d with ⟨he, -⟩ | ⟨he, h'⟩
  · omega
  · rcases Nat.lt_or_eq_of_le hq with hlt | rfl <;> omega

theorem le_nearestEven_of_mul_le {n d z : Nat} (hd : 0 < d) (h : z * d ≤ n) : z ≤ nearestEven n d := by
  have hq : z ≤ n / d := (Nat.le_div_iff_mul_le hd).2 h
  rcases nearestEven_cases n d with ⟨he, -⟩ | ⟨he, -⟩ <;> omega

/-! ## The nearest magnitude bits -/

/-- `m` are the bits of a magnitude nearest to `n / d` among all magnitudes, and even if another one is as near. -/
structure NearestBits (m n d : Nat) : Prop where
  nearest : ∀ m', |(magOfBits m * d : Int) - n| ≤ |(magOfBits m' * d : Int) - n|
  even : ∀ m', |(magOfBits m * d : Int) - n| = |(magOfBits m' * d : Int) - n| →
    magOfBits m' ≠ magOfBits m → m % 2 = 0

/-- The low bits `roundMag` drops from the quotient. -/
def droppedBits (n d : Nat) : Nat := Nat.log2 (n / d) - 23

/-- The divisor that counts in multiples of the last significand bit kept. -/
def roundStep (n d : Nat) : Nat := d * 2 ^ droppedBits n d

/-- The bits `roundMag` chooses before it stops at infinity (`roundMag_eq`). -/
def roundBits (n d : Nat) : Nat := droppedBits n d * 2 ^ 23 + nearestEven n (roundStep n d)

theorem roundMag_eq (n d : Nat) : roundMag n d = Min.min (roundBits n d) 0x7F800000 := rfl

theorem roundStep_pos (n : Nat) {d : Nat} (hd : 0 < d) : 0 < roundStep n d := Nat.mul_pos hd (Nat.two_pow_pos _)

theorem mul_roundStep_le {n d : Nat} (hd : 0 < d) (h : droppedBits n d ≠ 0) : 2 ^ 23 * roundStep n d ≤ n := by
  have hlog : Nat.log2 (n / d) = droppedBits n d + 23 := by rw [droppedBits] at *; omega
  have hq : n / d ≠ 0 := fun h0 => h (by rw [droppedBits, h0]; rfl)
  have hle := (Nat.le_div_iff_mul_le hd).1 (Nat.log2_self_le hq)
  rw [hlog, Nat.pow_add] at hle
  calc 2 ^ 23 * roundStep n d = 2 ^ droppedBits n d * 2 ^ 23 * d := by rw [roundStep]; ring
    _ ≤ n := hle

theorem le_mul_roundStep (n : Nat) {d : Nat} (hd : 0 < d) : n ≤ 2 ^ 24 * roundStep n d := by
  have hlt : n / d < 2 ^ (droppedBits n d + 24) :=
    Nat.lt_log2_self.trans_le (Nat.pow_le_pow_right two_pos (by rw [droppedBits]; omega))
  rw [Nat.div_lt_iff_lt_mul hd, Nat.pow_add] at hlt
  calc n ≤ 2 ^ droppedBits n d * 2 ^ 24 * d := hlt.le
    _ = 2 ^ 24 * roundStep n d := by rw [roundStep]; ring

theorem magOfBits_roundBits (n : Nat) {d : Nat} (hd : 0 < d) :
    magOfBits (roundBits n d) = nearestEven n (roundStep n d) * 2 ^ droppedBits n d := by
  have hstep := roundStep_pos n hd
  refine magOfBits_eq _ ?_ (nearestEven_le_of_le_mul hstep (le_mul_roundStep n hd))
  exact or_iff_not_imp_left.2 fun h => le_nearestEven_of_mul_le hstep (mul_roundStep_le hd h)

theorem magOfBits_lt_or_dvd (k m : Nat) : magOfBits m < 2 ^ 23 * 2 ^ k ∨ 2 ^ k ∣ magOfBits m := by
  obtain ⟨j, r, hlow, hhigh, rfl⟩ := exists_significand m
  rw [magOfBits_eq j hlow hhigh.le]
  rcases Nat.lt_or_ge j k with hj | hj
  · left
    calc r * 2 ^ j < 2 ^ 24 * 2 ^ j := Nat.mul_lt_mul_of_pos_right hhigh (Nat.two_pow_pos j)
      _ = 2 ^ 23 * 2 ^ (j + 1) := by ring
      _ ≤ 2 ^ 23 * 2 ^ k := Nat.mul_le_mul_left _ (Nat.pow_le_pow_right two_pos hj)
  · exact .inr (Dvd.dvd.mul_left (Nat.pow_dvd_pow 2 hj) r)

/-- A magnitude is a multiple of the last bit kept, or it lies below `2 ^ 23` of them and so below `n / d`. -/
theorem magOfBits_mul_cases (n m : Nat) {d : Nat} (hd : 0 < d) :
    (∃ z, magOfBits m = z * 2 ^ droppedBits n d) ∨
    (magOfBits m * d < 2 ^ 23 * roundStep n d ∧ 2 ^ 23 * roundStep n d ≤ n) := by
  by_cases hk : droppedBits n d = 0
  · exact .inl ⟨magOfBits m, by rw [hk, pow_zero, mul_one]⟩
  rcases magOfBits_lt_or_dvd (droppedBits n d) m with hlt | hdvd
  · refine .inr ⟨?_, mul_roundStep_le hd hk⟩
    calc magOfBits m * d < 2 ^ 23 * 2 ^ droppedBits n d * d := Nat.mul_lt_mul_of_pos_right hlt hd
      _ = 2 ^ 23 * roundStep n d := by rw [roundStep]; ring
  · exact .inl (exists_eq_mul_left_of_dvd hdvd)

/-- R13 for magnitudes without a bound on the exponent: among the multiples of the last bit kept by the property of
`nearestEven`, and every other magnitude is farther than `2 ^ 23` of that bit. -/
theorem nearestBits_roundBits (n : Nat) {d : Nat} (hd : 0 < d) : NearestBits (roundBits n d) n d := by
  have hnear := nearestEven_nearest n (roundStep_pos n hd)
  have hmul (z : Nat) : z * 2 ^ droppedBits n d * d = z * roundStep n d := by rw [roundStep]; ring
  have heven : nearestEven n (roundStep n d) % 2 = 0 → roundBits n d % 2 = 0 := by
    rw [roundBits]; omega
  have key (m : Nat) : |(magOfBits (roundBits n d) * d : Int) - n| ≤ |(magOfBits m * d : Int) - n| ∧
      (|(magOfBits (roundBits n d) * d : Int) - n| = |(magOfBits m * d : Int) - n| →
        magOfBits m ≠ magOfBits (roundBits n d) → roundBits n d % 2 = 0) := by
    simp only [← Nat.cast_mul] at hnear ⊢
    rw [magOfBits_roundBits n hd, hmul]
    rcases magOfBits_mul_cases n m hd with ⟨z, hz⟩ | ⟨hlt, hle⟩
    · rw [hz, hmul]
      obtain ⟨hnearest, htie⟩ := hnear z
      exact ⟨hnearest, fun h hne => heven (htie h fun h' => hne (by rw [h']))⟩
    · have hnearest := (hnear (2 ^ 23)).1
      simp only [abs_eq_max_neg] at hnearest ⊢
      omega
  exact ⟨fun m => (key m).1, fun m => (key m).2⟩

/-- The magnitudes on either side of the overflow threshold. -/
theorem magOfBits_max : magOfBits 0x7F7FFFFF = (2 ^ 24 - 1) * 2 ^ 253 := by decide

theorem magOfBits_inf : magOfBits 0x7F800000 = 2 ^ 24 * 2 ^ 253 := by decide

theorem magOfBits_zero : magOfBits 0 = 0 := by decide

theorem magOfBits_eq_zero {m : Nat} : magOfBits m = 0 ↔ m = 0 :=
  magOfBits_strictMono.injective.eq_iff' magOfBits_zero

/-- The threshold is half-way between the largest finite magnitude, whose bits are odd, and the next magnitude, whose
bits are even. -/
theorem NearestBits.lt_iff {m n d : Nat} (h : NearestBits m n d) (hd : 0 < d) :
    m < 0x7F800000 ↔ (n : Int) < overflowThreshold * d := by
  have hnearMax := h.nearest 0x7F7FFFFF
  have hnearInf := h.nearest 0x7F800000
  have htie := h.even 0x7F800000
  have hmono {a b : Nat} (hab : a < b) : magOfBits a * d < magOfBits b * d :=
    Nat.mul_lt_mul_of_pos_right (magOfBits_strictMono hab) hd
  simp only [abs_eq_max_neg, ← Nat.cast_mul, overflowThreshold] at hnearMax hnearInf htie ⊢
  constructor
  · intro hm
    rcases Nat.lt_or_eq_of_le (Nat.le_of_lt_succ hm) with hlt | rfl
    · have hbelow := hmono hlt
      rw [magOfBits_max] at hbelow
      rw [magOfBits_inf] at hnearInf
      omega
    · rw [magOfBits_max, magOfBits_inf] at htie hnearInf
      omega
  · intro hn
    by_contra hm
    have habove : magOfBits 0x7F800000 * d ≤ magOfBits m * d :=
      Nat.mul_le_mul_right d (magOfBits_strictMono.monotone (Nat.le_of_not_lt hm))
    rw [magOfBits_inf] at habove
    rw [magOfBits_max] at hnearMax
    omega

/-- A value of the other sign is no nearer than its magnitude is. -/
theorem NearestBits.nearest_int {m n d m' : Nat} (h : NearestBits m n d) {y : Int}
    (hy : y.natAbs = magOfBits m') : |(magOfBits m * d : Int) - n| ≤ |y * d - n| := by
  have hnear := h.nearest m'
  rcases Int.natAbs_eq y with hy' | hy' <;> rw [hy'] <;> rw [hy]
  · exact hnear
  · simp only [abs_eq_max_neg, ← Nat.cast_mul, Int.neg_mul] at hnear ⊢
    omega

theorem NearestBits.even_int {m n d m' : Nat} (h : NearestBits m n d) (hd : 0 < d) {y : Int}
    (hy : y.natAbs = magOfBits m') (htie : |(magOfBits m * d : Int) - n| = |y * d - n|)
    (hne : y ≠ magOfBits m) : m % 2 = 0 := by
  have hnear := h.nearest m'
  have hzero := h.nearest 0
  have heven := h.even m'
  rw [magOfBits_zero] at hzero
  rcases Int.natAbs_eq y with hy' | hy' <;> rw [hy', hy] at htie hne
  · exact heven htie (by exact_mod_cast hne)
  · simp only [abs_eq_max_neg, ← Nat.cast_mul, Int.neg_mul, Nat.zero_mul] at *
    by_cases hv : magOfBits m' = magOfBits m
    · have hpos : magOfBits m ≤ magOfBits m * d := Nat.le_mul_of_pos_right _ hd
      rw [hv] at htie hne
      omega
    · exact heven (by omega) hv

/-! ## Words of given sign and magnitude bits -/

theorem magBits_pack (neg : Bool) {m : Nat} (h : m < 2 ^ 31) : magBits (pack neg m) = m := by
  rw [magBits, pack, BitVec.toNat_ofNat]
  split <;> omega

theorem sign_pack (neg : Bool) {m : Nat} (h : m < 2 ^ 31) : sign (pack neg m) = neg := by
  rw [sign, pack, BitVec.toNat_ofNat]
  cases neg <;> simp <;> omega

theorem pack_sign_magBits (x : Word) : pack (sign x) (magBits x) = x := by
  apply BitVec.eq_of_toNat_eq
  rw [pack, BitVec.toNat_ofNat, sign, magBits]
  have := x.isLt
  simp only [decide_eq_true_eq]
  split <;> omega

theorem scaled_pack (neg : Bool) {m : Nat} (h : m < 2 ^ 31) :
    scaled (pack neg m) = if neg then -(magOfBits m : Int) else magOfBits m := by
  rw [scaled, sign_pack neg h, mag_eq_magOfBits, magBits_pack neg h]

theorem isFinite_pack (neg : Bool) {m : Nat} (h : m < 2 ^ 31) :
    isFinite (pack neg m) = true ↔ m < 0x7F800000 := by
  rw [isFinite, magBits_pack neg h, decide_eq_true_iff]

theorem natAbs_scaled (x : Word) : (scaled x).natAbs = mag x := by
  rw [scaled]
  split <;> simp

theorem pack_zero (neg : Bool) : pack neg 0 = if neg then 0x80000000#32 else 0x00000000#32 := by
  cases neg <;> rfl

theorem pack_inf (neg : Bool) : pack neg 0x7F800000 = infinity neg := by
  cases neg <;> rfl

/-! ## Rounding with signs -/

/-- `v` with its sign inverted if asked. -/
def withSign (neg : Bool) (v : Int) : Int := if neg then -v else v

@[simp] theorem natAbs_withSign (neg : Bool) (v : Int) : (withSign neg v).natAbs = v.natAbs := by
  cases neg <;> simp [withSign]

theorem withSign_inj {neg : Bool} {v w : Int} : withSign neg v = withSign neg w ↔ v = w := by
  cases neg <;> simp [withSign]

theorem roundMag_le (n d : Nat) : roundMag n d ≤ 0x7F800000 := Nat.min_le_right _ _

/-- The distance of `x` from `n / d` as a distance of magnitudes, once the sign of the quotient is taken out. -/
theorem abs_mul_sub {neg : Bool} {n d : Int} (hneg : n ≠ 0 → neg = (decide (n < 0) != decide (d < 0))) (x : Int) :
    |x * d - n| = |withSign neg x * (d.natAbs : Int) - n.natAbs| := by
  rcases eq_or_ne n 0 with rfl | hn
  · cases neg <;> simp [withSign, abs_mul]
  obtain rfl := hneg hn
  simp only [Int.natCast_natAbs]
  rcases hn.lt_or_gt with hn | hn <;> rcases lt_or_ge d 0 with hd | hd <;>
    simp only [hn, hd, hn.not_gt, hd.not_gt, abs_of_neg, abs_of_pos, abs_of_nonneg, decide_true, decide_false] <;>
    simp [withSign, abs_eq_max_neg] <;> omega

theorem round149_of_lt (neg : Bool) {n d : Nat} (h : roundBits n d < 0x7F800000) :
    round149 neg n d = pack neg (roundBits n d) := by
  rw [round149, roundMag_eq, Nat.min_eq_left h.le]

theorem round149_of_ge (neg : Bool) {n d : Nat} (h : 0x7F800000 ≤ roundBits n d) :
    round149 neg n d = infinity neg := by
  rw [round149, roundMag_eq, Nat.min_eq_right h, pack_inf]

theorem isFinite_round149 (neg : Bool) (n d : Nat) :
    isFinite (round149 neg n d) = true ↔ roundBits n d < 0x7F800000 := by
  rw [round149, isFinite_pack neg ((roundMag_le n d).trans_lt (by norm_num)), roundMag_eq]
  omega

/-- R13: one rounding of `n / d`. A zero quotient may take either sign. -/
theorem roundsTo_round149 {neg : Bool} {n d : Int} (hd : d ≠ 0)
    (hneg : n ≠ 0 → neg = (decide (n < 0) != decide (d < 0))) :
    RoundsTo (round149 neg n.natAbs d.natAbs) n d := by
  have hD : 0 < d.natAbs := Int.natAbs_pos.2 hd
  have hbits := nearestBits_roundBits n.natAbs hD
  have hlt : roundBits n.natAbs d.natAbs < 0x7F800000 ↔ |n| < overflowThreshold * |d| := by
    rw [hbits.lt_iff hD, Int.natCast_natAbs, Int.natCast_natAbs]
  have hscaled (h : roundBits n.natAbs d.natAbs < 0x7F800000) :
      withSign neg (scaled (round149 neg n.natAbs d.natAbs)) = (magOfBits (roundBits n.natAbs d.natAbs) : Int) := by
    rw [round149_of_lt neg h, scaled_pack neg (h.trans (by norm_num))]
    cases neg <;> simp [withSign]
  have hnatAbs (y : Word) : (withSign neg (scaled y)).natAbs = magOfBits (magBits y) := by
    rw [natAbs_withSign, natAbs_scaled, mag_eq_magOfBits]
  refine ⟨?_, fun h => ?_, fun h y _ => ?_, fun h y _ htie hne => ?_⟩
  · rw [isFinite_round149, hlt]
  · rw [← Bool.not_eq_true, isFinite_round149] at h
    have hn : n ≠ 0 := by
      rintro rfl
      exact h (hlt.2 (by simpa using mul_pos (by decide : 0 < overflowThreshold) (abs_pos.2 hd)))
    rw [round149_of_ge neg (Nat.le_of_not_lt h), hneg hn]
  · rw [isFinite_round149] at h
    rw [abs_mul_sub hneg, abs_mul_sub hneg (scaled y), hscaled h]
    exact hbits.nearest_int (hnatAbs y)
  · rw [isFinite_round149] at h
    rw [abs_mul_sub hneg, abs_mul_sub hneg (scaled y), hscaled h] at htie
    rw [round149_of_lt neg h, magBits_pack neg (h.trans (by norm_num))]
    refine hbits.even_int hD (hnatAbs y) htie ?_
    rwa [← hscaled h, ne_eq, withSign_inj]

/-! ## Classes of operands -/

theorem isNaN_of_isFinite {x : Word} (h : isFinite x = true) : isNaN x = false := by
  simp only [isFinite, isNaN, decide_eq_true_eq, decide_eq_false_iff_not] at *
  omega

theorem isInf_of_isFinite {x : Word} (h : isFinite x = true) : isInf x = false := by
  simp only [isFinite, isInf, decide_eq_true_eq, decide_eq_false_iff_not] at *
  omega

theorem isNaN_of_isInf {x : Word} (h : isInf x = true) : isNaN x = false := by
  simp only [isInf, isNaN, decide_eq_true_eq, decide_eq_false_iff_not] at *
  omega

theorem isZero_of_isInf {x : Word} (h : isInf x = true) : isZero x = false := by
  simp only [isInf, isZero, decide_eq_true_eq, decide_eq_false_iff_not] at *
  omega

theorem isZero_iff_scaled (x : Word) : isZero x = true ↔ scaled x = 0 := by
  rw [isZero, decide_eq_true_eq, ← Int.natAbs_eq_zero, natAbs_scaled, mag_eq_magOfBits, magOfBits_eq_zero]

theorem eq_infinity {x : Word} (h : isInf x = true) : x = infinity (sign x) := by
  rw [isInf, decide_eq_true_eq] at h
  rw [← pack_inf, ← h, pack_sign_magBits]

/-! ## Sign inversion -/

@[simp] theorem magBits_neg (x : Word) : magBits (neg x) = magBits x := by
  have h (y : Word) : magBits y = (y.setWidth 31).toNat := by simp [magBits]
  rw [h, h, neg, BitVec.setWidth_xor]
  simp

@[simp] theorem sign_neg (x : Word) : sign (neg x) = !sign x := by
  have h (y : Word) : sign y = y.msb := by rw [sign, BitVec.msb_eq_decide]
  rw [h, h, neg, BitVec.msb_xor, show (0x80000000#32).msb = true by decide, Bool.xor_true]

@[simp] theorem isNaN_neg (x : Word) : isNaN (neg x) = isNaN x := by rw [isNaN, magBits_neg, isNaN]

@[simp] theorem isInf_neg (x : Word) : isInf (neg x) = isInf x := by rw [isInf, magBits_neg, isInf]

@[simp] theorem isFinite_neg (x : Word) : isFinite (neg x) = isFinite x := by rw [isFinite, magBits_neg, isFinite]

@[simp] theorem scaled_neg (x : Word) : scaled (neg x) = -scaled x := by
  rw [scaled, scaled, sign_neg, mag_eq_magOfBits, mag_eq_magOfBits, magBits_neg]
  cases sign x <;> simp

/-! ## Sums -/

theorem roundsTo_pack_zero (neg : Bool) : RoundsTo (pack neg 0) 0 1 := by
  have h := roundsTo_round149 (neg := neg) (n := 0) one_ne_zero (absurd rfl)
  rwa [round149, show roundMag (0 : Int).natAbs (1 : Int).natAbs = 0 by decide] at h

/-- R13: the sum of finite operands is rounded once, and an exact zero has the sign both operands share, else plus. -/
theorem exists_roundsTo_sum? {a b : Word} (ha : isFinite a = true) (hb : isFinite b = true) :
    ∃ r, sum? a b = some r ∧ RoundsTo r (scaled a + scaled b) 1 ∧
      (scaled a + scaled b = 0 → r = pack (sign a && sign b) 0) := by
  by_cases h : scaled a + scaled b = 0
  · refine ⟨pack (sign a && sign b) 0, ?_, h ▸ roundsTo_pack_zero _, fun _ => rfl⟩
    simp [sum?, ha, hb, isNaN_of_isFinite, isInf_of_isFinite, h]
  · refine ⟨round149 (decide (scaled a + scaled b < 0)) (scaled a + scaled b).natAbs 1, ?_, ?_, (absurd · h)⟩
    · simp [sum?, ha, hb, isNaN_of_isFinite, isInf_of_isFinite, h]
    · exact roundsTo_round149 (n := scaled a + scaled b) (d := 1) one_ne_zero (by simp)

theorem sum?_inf_left {a b : Word} (ha : isInf a = true) (hb : isFinite b = true) : sum? a b = some a := by
  simp [sum?, ha, hb, isNaN_of_isInf, isNaN_of_isFinite, isInf_of_isFinite]

theorem sum?_inf_right {a b : Word} (ha : isFinite a = true) (hb : isInf b = true) : sum? a b = some b := by
  simp [sum?, ha, hb, isNaN_of_isInf, isNaN_of_isFinite, isInf_of_isFinite]

theorem sum?_inf_same {a b : Word} (ha : isInf a = true) (hb : isInf b = true) (h : sign a = sign b) :
    sum? a b = some a := by
  simp [sum?, ha, hb, isNaN_of_isInf, h]

theorem sum?_inf_opposite {a b : Word} (ha : isInf a = true) (hb : isInf b = true) (h : sign a ≠ sign b) :
    sum? a b = none := by
  simp [sum?, ha, hb, isNaN_of_isInf, h]

theorem sum?_nan {a b : Word} (h : isNaN a = true ∨ isNaN b = true) : sum? a b = none := by
  rw [sum?, if_pos (by simpa using h)]

theorem sign_inj_of_isInf {a b : Word} (ha : isInf a = true) (hb : isInf b = true) : sign a = sign b ↔ a = b := by
  refine ⟨fun h => ?_, fun h => by rw [h]⟩
  rw [eq_infinity ha, eq_infinity hb, h]

theorem add_of_sum? {a b r : Word} (h : sum? a b = some r) : add a b = r := by
  rw [add, h, Option.getD_some]

theorem sub_of_sum? {a b r : Word} (h : sum? a (neg b) = some r) : sub a b = r := by
  rw [sub, h, Option.getD_some]

theorem isNaN_add_of_sum? {a b : Word} (h : sum? a b = none) : isNaN (add a b) = true := by
  rw [add, h, Option.getD_none, nan_isNaN]

theorem isNaN_sub_of_sum? {a b : Word} (h : sum? a (neg b) = none) : isNaN (sub a b) = true := by
  rw [sub, h, Option.getD_none, nan_isNaN]

theorem add_of_isFinite {a b : Word} (ha : isFinite a = true) (hb : isFinite b = true) :
    RoundsTo (add a b) (scaled a + scaled b) 1 ∧
    (scaled a + scaled b = 0 → add a b = if sign a && sign b then 0x80000000#32 else 0x00000000#32) := by
  obtain ⟨r, hsum, hround, hzero⟩ := exists_roundsTo_sum? ha hb
  rw [add_of_sum? hsum, ← pack_zero]
  exact ⟨hround, hzero⟩

theorem sub_of_isFinite {a b : Word} (ha : isFinite a = true) (hb : isFinite b = true) :
    RoundsTo (sub a b) (scaled a - scaled b) 1 ∧
    (scaled a - scaled b = 0 → sub a b = if sign a && !sign b then 0x80000000#32 else 0x00000000#32) := by
  obtain ⟨r, hsum, hround, hzero⟩ := exists_roundsTo_sum? ha ((isFinite_neg b).trans hb)
  rw [scaled_neg, sign_neg, ← sub_eq_add_neg] at hzero
  rw [scaled_neg, ← sub_eq_add_neg] at hround
  rw [sub_of_sum? hsum, ← pack_zero]
  exact ⟨hround, hzero⟩

/-! ## Products and quotients -/

theorem mul_of_isFinite {a b : Word} (ha : isFinite a = true) (hb : isFinite b = true) :
    mul a b = round149 (sign a != sign b) (scaled a * scaled b).natAbs unit := by
  simp [mul, ha, hb, isNaN_of_isFinite, isInf_of_isFinite, Int.natAbs_mul, natAbs_scaled]

theorem div_of_isFinite {a b : Word} (ha : isFinite a = true) (hb : isFinite b = true) (hz : isZero b = false) :
    div a b = round149 (sign a != sign b) (scaled a * (unit : Int)).natAbs (scaled b).natAbs := by
  simp [div, ha, hb, isNaN_of_isFinite, isInf_of_isFinite, hz, Int.natAbs_mul, natAbs_scaled]

theorem div_of_isZero {a b : Word} (ha : isFinite a = true) (hb : isFinite b = true) (hz : isZero b = true) :
    div a b = if isZero a then nan .div a b else infinity (sign a != sign b) := by
  simp [div, ha, hb, isNaN_of_isFinite, isInf_of_isFinite, hz, pack_inf]

theorem sign_round149 (neg : Bool) (n d : Nat) : sign (round149 neg n d) = neg :=
  sign_pack neg ((roundMag_le n d).trans_lt (by norm_num))

theorem sign_eq_decide {x : Word} (h : scaled x ≠ 0) : sign x = decide (scaled x < 0) := by
  rw [scaled] at h ⊢
  cases hs : sign x <;> simp_all
  omega

theorem roundsTo_mul {a b : Word} (ha : isFinite a = true) (hb : isFinite b = true) :
    RoundsTo (mul a b) (scaled a * scaled b) (unit : Int) := by
  rw [mul_of_isFinite ha hb]
  refine roundsTo_round149 (d := (unit : Int)) (by decide) fun h => ?_
  have ha0 := left_ne_zero_of_mul h
  have hb0 := right_ne_zero_of_mul h
  rw [sign_eq_decide ha0, sign_eq_decide hb0]
  rcases ha0.lt_or_gt with hna | hpa <;> rcases hb0.lt_or_gt with hnb | hpb <;>
    simp [mul_neg_iff, *, lt_asymm]

theorem roundsTo_div {a b : Word} (ha : isFinite a = true) (hb : isFinite b = true) (hz : isZero b = false) :
    RoundsTo (div a b) (scaled a * (unit : Int)) (scaled b) := by
  have hunit : 0 < unit := by decide
  have hb0 : scaled b ≠ 0 := fun h => by simp [(isZero_iff_scaled b).2 h] at hz
  rw [div_of_isFinite ha hb hz]
  refine roundsTo_round149 hb0 fun h => ?_
  rw [sign_eq_decide (left_ne_zero_of_mul h), sign_eq_decide hb0]
  simp [mul_neg_iff, hunit]

theorem sign_mul {a b : Word} (ha : isFinite a = true) (hb : isFinite b = true) :
    sign (mul a b) = (sign a != sign b) := by
  rw [mul_of_isFinite ha hb, sign_round149]

theorem sign_div {a b : Word} (ha : isFinite a = true) (hb : isFinite b = true) (hz : isZero b = false) :
    sign (div a b) = (sign a != sign b) := by
  rw [div_of_isFinite ha hb hz, sign_round149]

/-! ## The four operators by the classes of their operands (R13) -/

theorem operators_finite {a b : Word} (ha : isFinite a = true) (hb : isFinite b = true) :
    RoundsTo (add a b) (scaled a + scaled b) 1 ∧
    RoundsTo (sub a b) (scaled a - scaled b) 1 ∧
    RoundsTo (mul a b) (scaled a * scaled b) (unit : Int) ∧
    (isZero b = false → RoundsTo (div a b) (scaled a * (unit : Int)) (scaled b)) ∧
    sign (mul a b) = (sign a != sign b) ∧
    (isZero b = false → sign (div a b) = (sign a != sign b)) ∧
    (scaled a + scaled b = 0 → add a b = if sign a && sign b then 0x80000000#32 else 0x00000000#32) ∧
    (scaled a - scaled b = 0 → sub a b = if sign a && !sign b then 0x80000000#32 else 0x00000000#32) ∧
    (isZero b = true → isZero a = false → div a b = infinity (sign a != sign b)) ∧
    (isZero b = true → isZero a = true → isNaN (div a b) = true) := by
  obtain ⟨hadd, hadd0⟩ := add_of_isFinite ha hb
  obtain ⟨hsub, hsub0⟩ := sub_of_isFinite ha hb
  refine ⟨hadd, hsub, roundsTo_mul ha hb, roundsTo_div ha hb, sign_mul ha hb, sign_div ha hb, hadd0, hsub0, ?_, ?_⟩
  · intro hb0 ha0
    simp [div_of_isZero ha hb hb0, ha0]
  · intro hb0 ha0
    simp [div_of_isZero ha hb hb0, ha0, nan_isNaN]

theorem operators_inf_finite {a b : Word} (ha : isInf a = true) (hb : isFinite b = true) :
    add a b = a ∧ add b a = a ∧ sub a b = a ∧ sub b a = neg a ∧
    (isZero b = false → mul a b = infinity (sign a != sign b) ∧ mul b a = infinity (sign a != sign b)) ∧
    (isZero b = true → isNaN (mul a b) = true ∧ isNaN (mul b a) = true) ∧
    div a b = infinity (sign a != sign b) ∧
    div b a = if sign a != sign b then 0x80000000#32 else 0x00000000#32 := by
  have hna : isInf (neg a) = true := (isInf_neg a).trans ha
  have hnb : isFinite (neg b) = true := (isFinite_neg b).trans hb
  have hna' := isNaN_of_isInf ha
  have hnb' := isNaN_of_isFinite hb
  have hib := isInf_of_isFinite hb
  have hcomm : (sign b != sign a) = (sign a != sign b) := Bool.xor_comm _ _
  refine ⟨add_of_sum? (sum?_inf_left ha hb), add_of_sum? (sum?_inf_right hb ha), sub_of_sum? (sum?_inf_left ha hnb),
    sub_of_sum? (sum?_inf_right hb hna), fun hz => ?_, fun hz => ?_, ?_, ?_⟩
  · simp [mul, hna', hnb', ha, hz, isZero_of_isInf, pack_inf, hcomm]
  · simp [mul, hna', hnb', ha, hz, nan_isNaN]
  · simp [div, hna', hnb', hib, ha, pack_inf]
  · simp [div, hna', hnb', hib, ha, pack_zero, hcomm]

theorem operators_inf_inf {a b : Word} (ha : isInf a = true) (hb : isInf b = true) :
    mul a b = infinity (sign a != sign b) ∧ isNaN (div a b) = true ∧
    (a = b → add a b = a ∧ isNaN (sub a b) = true) ∧ (a ≠ b → isNaN (add a b) = true ∧ sub a b = a) := by
  have hnb : isInf (neg b) = true := (isInf_neg b).trans hb
  have hsign := sign_inj_of_isInf ha hb
  refine ⟨?_, ?_, fun h => ?_, fun h => ?_⟩
  · simp [mul, ha, hb, isNaN_of_isInf, isZero_of_isInf, pack_inf]
  · simp [div, ha, hb, isNaN_of_isInf, nan_isNaN]
  · have hne : sign a ≠ sign (neg b) := by simp [hsign.2 h]
    exact ⟨add_of_sum? (sum?_inf_same ha hb (hsign.2 h)), isNaN_sub_of_sum? (sum?_inf_opposite ha hnb hne)⟩
  · have hne : sign a ≠ sign b := mt hsign.1 h
    have heq : sign a = sign (neg b) := by rw [sign_neg, Bool.eq_not]; exact hne
    exact ⟨isNaN_add_of_sum? (sum?_inf_opposite ha hb hne), sub_of_sum? (sum?_inf_same ha hnb heq)⟩

theorem operators_nan {a b : Word} (h : isNaN a = true ∨ isNaN b = true) :
    isNaN (add a b) = true ∧ isNaN (sub a b) = true ∧ isNaN (mul a b) = true ∧ isNaN (div a b) = true := by
  have hor : (isNaN a || isNaN b) = true := by simpa using h
  refine ⟨isNaN_add_of_sum? (sum?_nan h), isNaN_sub_of_sum? (sum?_nan (by rwa [isNaN_neg])), ?_, ?_⟩
  · simp [mul, hor, nan_isNaN]
  · simp [div, hor, nan_isNaN]

/-! ## Comparisons -/

/-- The keys are ordered as the values: magnitude bits are ordered as the magnitudes, and both zeros are 0. -/
theorem key_lt_iff (a b : Word) : key a < key b ↔ scaled a < scaled b := by
  have hab := magOfBits_strictMono.lt_iff_lt (a := magBits a) (b := magBits b)
  have hba := magOfBits_strictMono.lt_iff_lt (a := magBits b) (b := magBits a)
  have ha0 := magOfBits_eq_zero (m := magBits a)
  have hb0 := magOfBits_eq_zero (m := magBits b)
  simp only [key, scaled, mag_eq_magOfBits]
  cases sign a <;> cases sign b <;> simp only [Bool.false_eq_true, ↓reduceIte] <;> omega

theorem key_le_iff (a b : Word) : key a ≤ key b ↔ scaled a ≤ scaled b := by
  rw [← not_lt, key_lt_iff, not_lt]

/-! ## Exact results -/

theorem abs_scaled_lt {y : Word} (h : isFinite y = true) : |scaled y| < overflowThreshold := by
  rw [isFinite, decide_eq_true_eq] at h
  have hle := magOfBits_strictMono.monotone (Nat.le_of_lt_succ h)
  rw [magOfBits_max] at hle
  rw [Int.abs_eq_natAbs, natAbs_scaled, mag_eq_magOfBits, overflowThreshold]
  omega

/-- A value that some finite binary32 has is not rounded. -/
theorem roundsTo_exact {r y : Word} {n : Int} (h : RoundsTo r n 1) (hy : isFinite y = true)
    (hyn : scaled y = n) : isFinite r = true ∧ scaled r = n := by
  have hr : isFinite r = true := h.finite.2 (by simpa [hyn] using abs_scaled_lt hy)
  have hnear := h.nearest hr y hy
  exact ⟨hr, by simpa [hyn, sub_eq_zero] using hnear⟩

/-- A significand below `2 ^ 23` is brought up by doubling it, which takes an exponent from `k` each time. -/
theorem exists_magOfBits_eq (k : Nat) {r : Nat} (h : r ≤ 2 ^ 24) : ∃ m, magOfBits m = r * 2 ^ k := by
  induction k generalizing r with
  | zero => exact ⟨_, magOfBits_eq 0 (.inl rfl) h⟩
  | succ k ih =>
    rcases Nat.lt_or_ge r (2 ^ 23) with hr | hr
    · obtain ⟨m, hm⟩ := ih (r := 2 * r) (by omega)
      exact ⟨m, by rw [hm]; ring⟩
    · exact ⟨_, magOfBits_eq (k + 1) (.inr hr) h⟩

/-! ## Representable values -/

/-- Some finite binary32 has the value `v`, in units of 2^-149. -/
def Representable (v : Int) : Prop := ∃ y : Word, isFinite y = true ∧ scaled y = v

theorem representable_of_natAbs {v : Int} {k r : Nat} (hr : r ≤ 2 ^ 24) (hv : v.natAbs = r * 2 ^ k)
    (hmax : v.natAbs < 2 ^ 24 * 2 ^ 253) : Representable v := by
  obtain ⟨m, hm⟩ := exists_magOfBits_eq k hr
  rw [hv, ← hm, ← magOfBits_inf, magOfBits_strictMono.lt_iff_lt] at hmax
  have hm31 : m < 2 ^ 31 := hmax.trans (by norm_num)
  refine ⟨pack (decide (v < 0)) m, (isFinite_pack _ hm31).2 hmax, ?_⟩
  rw [scaled_pack _ hm31, hm, ← hv]
  by_cases h : v < 0 <;> simp only [h, decide_true, decide_false, Bool.false_eq_true, ↓reduceIte] <;> omega

theorem exists_mag_eq (x : Word) : ∃ k r : Nat, r < 2 ^ 24 ∧ mag x = r * 2 ^ k := by
  obtain ⟨k, r, hlow, hhigh, hm⟩ := exists_significand (magBits x)
  exact ⟨k, r, hhigh, by rw [mag_eq_magOfBits, hm, magOfBits_eq k hlow hhigh.le]⟩

/-- A finite value is integral, or it is below `2 ^ 23`. -/
theorem unit_dvd_or_mag_lt (x : Word) : (unit : Int) ∣ scaled x ∨ mag x < 2 ^ 23 * unit := by
  obtain ⟨k, r, hr, hmag⟩ := exists_mag_eq x
  rcases Nat.lt_or_ge k 149 with hk | hk
  · right
    calc mag x = r * 2 ^ k := hmag
      _ < 2 ^ 24 * 2 ^ k := Nat.mul_lt_mul_of_pos_right hr (Nat.two_pow_pos k)
      _ ≤ 2 ^ 24 * 2 ^ 148 := Nat.mul_le_mul_left _ (Nat.pow_le_pow_right two_pos (by omega))
      _ = 2 ^ 23 * unit := by decide
  · left
    rw [Int.natCast_dvd, natAbs_scaled, hmag, unit]
    exact Dvd.dvd.mul_left (Nat.pow_dvd_pow 2 hk) r

/-! ## `floor` and `frac` (R15) -/

theorem representable_floor {x : Word} (h : isFinite x = true) :
    Representable (scaled x / (unit : Int) * (unit : Int)) := by
  rcases unit_dvd_or_mag_lt x with hdvd | hlt
  · exact ⟨x, h, (Int.ediv_mul_cancel hdvd).symm⟩
  · rw [← natAbs_scaled] at hlt
    have hr : (scaled x / (unit : Int)).natAbs ≤ 2 ^ 24 := by
      simp only [unit] at *; omega
    refine representable_of_natAbs (k := 149) hr (Int.natAbs_mul _ _) ?_
    rw [Int.natAbs_mul]
    calc _ ≤ 2 ^ 24 * unit := Nat.mul_le_mul_right _ hr
      _ < 2 ^ 24 * 2 ^ 253 := by decide

theorem roundsTo_toF (n : Int) : RoundsTo (toF n) (n * (unit : Int)) 1 := by
  have hunit : 0 < unit := by decide
  have h := roundsTo_round149 (neg := decide (n < 0)) (n := n * (unit : Int)) one_ne_zero
    (by simp [mul_neg_iff, hunit])
  rwa [Int.natAbs_mul, Int.natAbs_natCast] at h

theorem floor_of_isFinite {x : Word} (h : isFinite x = true) :
    isFinite (floor x) = true ∧ scaled (floor x) = scaled x / (unit : Int) * (unit : Int) := by
  by_cases hz : isZero x = true
  · have hfloor : floor x = x := by simp [floor, isNaN_of_isFinite h, hz]
    rw [hfloor, (isZero_iff_scaled x).1 hz]
    exact ⟨h, by simp⟩
  · have hfloor : floor x = toF (scaled x / (unit : Int)) := by
      simp [floor, isNaN_of_isFinite h, isInf_of_isFinite h, hz]
    obtain ⟨y, hy, hyn⟩ := representable_floor h
    rw [hfloor]
    exact roundsTo_exact (roundsTo_toF _) hy hyn

theorem representable_frac {x : Word} (hs : sign x = false) : Representable (scaled x % (unit : Int)) := by
  have hlt := Nat.mod_lt (mag x) (by decide : 0 < unit)
  have hnatAbs : (scaled x % (unit : Int)).natAbs = mag x % unit := by simp [scaled, hs]; norm_cast
  have hmax : mag x % unit < 2 ^ 24 * 2 ^ 253 := hlt.trans (by decide)
  rw [← hnatAbs] at hmax
  obtain ⟨k, r, hr, hmag⟩ := exists_mag_eq x
  rcases Nat.lt_or_ge k 149 with hk | hk
  · have hunit : unit = 2 ^ (149 - k) * 2 ^ k := by rw [← Nat.pow_add, Nat.sub_add_cancel hk.le, unit]
    refine representable_of_natAbs (k := k) (r := r % 2 ^ (149 - k)) ((Nat.mod_le _ _).trans hr.le) ?_ hmax
    rw [hnatAbs, hmag, hunit, Nat.mul_mod_mul_right]
  · have hzero : mag x % unit = 0 := by
      rw [hmag, unit, Nat.mod_eq_zero_of_dvd (Dvd.dvd.mul_left (Nat.pow_dvd_pow 2 hk) r)]
    exact ⟨0#32, by decide, by rw [Int.natAbs_eq_zero.1 (hnatAbs.trans hzero)]; decide⟩

end Sys2Proof.F32

namespace Sys2Proof

/-! ## The statements -/

open Sys2Proof.Machine Sys2Proof.F32

/-- Settles O54, by the classes of the operands. -/
theorem operatorsRoundToNearestEven : Obligations.OperatorsRoundToNearestEven :=
  ⟨fun _ _ => operators_finite, fun _ _ => operators_inf_finite, fun _ _ => operators_inf_inf,
    fun _ _ => operators_nan⟩

/-- Settles O55: the keys the model compares are ordered as the values are. -/
theorem comparisonsFollowValues : Obligations.ComparisonsFollowValues := by
  refine ⟨fun a b ha hb => ?_, fun a b h => ?_⟩
  · simp [lt, le, isNaN_of_isFinite ha, isNaN_of_isFinite hb, key_lt_iff, key_le_iff]
  · rcases h with h | h <;> simp [lt, le, h]

/-- Settles O56: the integral part of a finite value is representable, so `toF` does not round it. -/
theorem floorIsLargestIntegralBelow : Obligations.FloorIsLargestIntegralBelow := by
  intro x hx
  obtain ⟨hfinite, hscaled⟩ := floor_of_isFinite hx
  have hunit : (0 : Int) < (unit : Int) := by decide
  have hlt := Int.lt_ediv_add_one_mul_self (scaled x) hunit
  rw [add_mul, one_mul] at hlt
  rw [hscaled]
  exact ⟨hfinite, Int.mul_emod_left _ _, Int.ediv_mul_le _ hunit.ne', hlt⟩

/-- Settles O57: the fractional part of a value that is not negative is representable, so `sub` does not round it. -/
theorem fracIsExactOnNonNegatives : Obligations.FracIsExactOnNonNegatives := by
  intro x hx hs
  obtain ⟨hfinite, hscaled⟩ := floor_of_isFinite hx
  obtain ⟨hround, -⟩ := sub_of_isFinite hx hfinite
  have hdiff : scaled x - scaled (floor x) = scaled x % (unit : Int) := by
    rw [hscaled, Int.emod_def, Int.mul_comm]
  rw [hdiff] at hround
  obtain ⟨y, hy, hyn⟩ := representable_frac hs
  exact (roundsTo_exact hround hy hyn).2

theorem paramsLegal_implementation : paramsLegal implementation := by
  have hrange : ∀ i : Fin 14, le (slotMin i) (slotMax i) = true ∧ le (slotMin i) (slotMin i) = true := by decide
  refine ⟨fun i => ?_, fun j => ?_, fun i => within_range _ (hrange i).1 (hrange i).2⟩
  · exact ⟨Nat.succ_pos _, (Config.combTuningLess1 i).isLt⟩
  · exact ⟨Nat.succ_pos _, (Config.apTuningLess1 j).isLt⟩

theorem paramsLegal_defaultConfiguration : paramsLegal defaultConfiguration := by
  refine ⟨?_, ?_, ?_⟩ <;> decide

/-- Settles O58, for each record by itself. -/
theorem parametersAreLegal : Obligations.ParametersAreLegal :=
  ⟨paramsLegal_implementation, paramsLegal_defaultConfiguration⟩

end Sys2Proof
end

section
/-! PROOFS. The state of the CORE (10_state): what reset gives, what a step keeps and who writes what: the statements
O10, O11, O15, O16, O27, O34, O59 and O60.

The ideas: the invariant (O60) turns on the phases. The frequencies are clamped or made of slots in [0, 1] and the rate
is at least 1, so the sum before `frac` is finite and has the plus sign, and its fractional part is a phase
(`phaseOk_advancePhase`). The unobservable power-up values (O16) turn on what a step reads before INIT: the port
registers and the model's own fields, on which the two runs agree. -/

namespace Sys2Proof.Machine

open Sys2Proof.F32

/-! ## Ranges of binary32 values -/

theorem natAbs_key (x : Word) : (key x).natAbs = magBits x := by
  rw [key]
  split <;> simp

theorem le_iff_key (a b : Word) : le a b = true ↔ isNaN a = false ∧ isNaN b = false ∧ key a ≤ key b := by
  simp [le, and_assoc]

theorem isFinite_iff_key (x : Word) : isFinite x = true ↔ (key x).natAbs < 0x7F800000 := by
  rw [natAbs_key, isFinite, decide_eq_true_eq]

/-- Between finite ends, a range of words is a range of values: no NaN and no infinity is in it. -/
theorem inRange_iff {lo hi x : Word} (hlo : isFinite lo = true) (hhi : isFinite hi = true) :
    inRange lo hi x ↔ isFinite x = true ∧ scaled lo ≤ scaled x ∧ scaled x ≤ scaled hi := by
  have hle : inRange lo hi x ↔ isNaN x = false ∧ key lo ≤ key x ∧ key x ≤ key hi := by
    simp only [inRange, le_iff_key, isNaN_of_isFinite hlo, isNaN_of_isFinite hhi, true_and]
    tauto
  have hfinite : isNaN x = false ∧ key lo ≤ key x ∧ key x ≤ key hi ↔
      isFinite x = true ∧ key lo ≤ key x ∧ key x ≤ key hi := by
    refine and_congr_left fun ⟨hl, hh⟩ => ⟨fun _ => ?_, isNaN_of_isFinite⟩
    rw [isFinite_iff_key] at *
    omega
  rw [hle, hfinite, key_le_iff, key_le_iff]

theorem scaled_plusZero : scaled plusZero = 0 := by decide

theorem scaled_one : scaled (lit 1 1) = (unit : Int) := by decide

theorem unit_pos : (0 : Int) < (unit : Int) := by decide

theorem inRange_plusZero_iff {hi x : Word} (hhi : isFinite hi = true) :
    inRange plusZero hi x ↔ isFinite x = true ∧ 0 ≤ scaled x ∧ scaled x ≤ scaled hi := by
  rw [inRange_iff (by decide) hhi, scaled_plusZero]

/-- Rounding does not leave a range whose ends are finite. -/
theorem inRange_of_roundsTo {r lo hi : Word} {n d : Int} (h : RoundsTo r n d) (hd : 0 < d)
    (hlo : isFinite lo = true) (hhi : isFinite hi = true) (hlon : scaled lo * d ≤ n) (hnhi : n ≤ scaled hi * d) :
    inRange lo hi r := by
  have hbelow := mul_lt_mul_of_pos_right (abs_lt.1 (abs_scaled_lt hlo)).1 hd
  have habove := mul_lt_mul_of_pos_right (abs_lt.1 (abs_scaled_lt hhi)).2 hd
  have hfinite : isFinite r = true := by
    rw [h.finite, abs_of_pos hd, abs_lt, ← neg_mul]
    exact ⟨hbelow.trans_le hlon, hnhi.trans_lt habove⟩
  have hnearLo := h.nearest hfinite lo hlo
  have hnearHi := h.nearest hfinite hi hhi
  simp only [abs_eq_max_neg] at hnearLo hnearHi
  refine (inRange_iff hlo hhi).2 ⟨hfinite, ?_, ?_⟩
  · by_contra hlt
    have hmul := mul_lt_mul_of_pos_right (not_le.1 hlt) hd
    omega
  · by_contra hlt
    have hmul := mul_lt_mul_of_pos_right (not_le.1 hlt) hd
    omega

/-- Rounding does not take a value that is not negative out of a range from zero. -/
theorem inRange_plusZero_of_roundsTo {r hi : Word} {n d : Int} (h : RoundsTo r n d) (hd : 0 < d)
    (hhi : isFinite hi = true) (hn : 0 ≤ n) (hnhi : n ≤ scaled hi * d) : inRange plusZero hi r :=
  inRange_of_roundsTo h hd (by decide) hhi (by rwa [scaled_plusZero, zero_mul]) hnhi

theorem inRange_mono {lo lo' hi hi' x : Word} (hl : le lo lo' = true) (hh : le hi' hi = true)
    (hx : inRange lo' hi' x) : inRange lo hi x := by
  simp only [inRange, le_iff_key] at *
  obtain ⟨hloNaN, -, hlo⟩ := hl
  obtain ⟨-, hhiNaN, hhi⟩ := hh
  obtain ⟨⟨-, hxNaN, hlx⟩, -, -, hxh⟩ := hx
  exact ⟨⟨hloNaN, hxNaN, hlo.trans hlx⟩, hxNaN, hhiNaN, hxh.trans hhi⟩

theorem le_max_right (x : Word) {lo : Word} (h : isNaN lo = false) : le lo (F32.max x lo) = true := by
  simp only [le_iff_key, F32.max, h]
  split_ifs <;> simp_all

theorem min_le_right (x : Word) {hi : Word} (h : isNaN hi = false) : le (F32.min x hi) hi = true := by
  simp only [le_iff_key, F32.min, h]
  split_ifs <;> simp_all [Int.le_of_lt]

theorem le_min {lo x hi : Word} (hx : le lo x = true) (hhi : le lo hi = true) : le lo (F32.min x hi) = true := by
  obtain ⟨-, hxNaN, -⟩ := (le_iff_key lo x).1 hx
  obtain ⟨-, hhiNaN, -⟩ := (le_iff_key lo hi).1 hhi
  simp only [F32.min, hxNaN, hhiNaN, Bool.false_eq_true, ↓reduceIte]
  split_ifs <;> assumption

/-- R15, R185: `clamp` answers a value of its range for every word, a NaN included. -/
theorem clamp_inRange (x : Word) {lo hi : Word} (h : le lo hi = true) : inRange lo hi (clamp x lo hi) := by
  obtain ⟨hlo, hhi, -⟩ := (le_iff_key lo hi).1 h
  exact ⟨le_min (le_max_right x hlo) h, min_le_right _ hhi⟩

/-! ## Sums, products and quotients of values that are not negative -/

theorem isFinite_of_validRate {fs : Word} (h : validRate fs = true) :
    isFinite fs = true ∧ (unit : Int) ≤ scaled fs := by
  have hkeyOne : key (lit 1 1) = 0x3F800000 := by decide
  have hkeyInf : key plusInf = 0x7F800000 := by decide
  simp only [validRate, Bool.and_eq_true, le_iff_key, lt, decide_eq_true_eq] at h
  obtain ⟨⟨-, -, hle⟩, -, hlt⟩ := h
  refine ⟨(isFinite_iff_key fs).2 (by omega), ?_⟩
  rwa [← scaled_one, ← key_le_iff]

theorem add_inRange {a b ha hb hi : Word} (hfa : isFinite ha = true) (hfb : isFinite hb = true)
    (hfhi : isFinite hi = true) (hsum : scaled ha + scaled hb ≤ scaled hi) (h : inRange plusZero ha a)
    (h' : inRange plusZero hb b) : inRange plusZero hi (add a b) := by
  obtain ⟨hfa', hla, hua⟩ := (inRange_plusZero_iff hfa).1 h
  obtain ⟨hfb', hlb, hub⟩ := (inRange_plusZero_iff hfb).1 h'
  exact inRange_plusZero_of_roundsTo (add_of_isFinite hfa' hfb').1 one_pos hfhi (by omega) (by omega)

theorem mul_inRange {c x : Word} (hc : isFinite c = true) (hpos : 0 ≤ scaled c) (h : inRange plusZero (lit 1 1) x) :
    inRange plusZero c (mul c x) := by
  obtain ⟨hfx, hlx, hux⟩ := (inRange_plusZero_iff (by decide)).1 h
  rw [scaled_one] at hux
  exact inRange_plusZero_of_roundsTo (roundsTo_mul hc hfx) unit_pos hc (mul_nonneg hpos hlx)
    (mul_le_mul_of_nonneg_left hux hpos)

theorem div_inRange {f fs hi : Word} (hfs : validRate fs = true) (hhi : isFinite hi = true)
    (h : inRange plusZero hi f) : inRange plusZero hi (div f fs) := by
  obtain ⟨hffs, hle⟩ := isFinite_of_validRate hfs
  obtain ⟨hff, hlf, huf⟩ := (inRange_plusZero_iff hhi).1 h
  have hpos : 0 < scaled fs := unit_pos.trans_le hle
  have hnz : isZero fs = false := by
    rw [← Bool.not_eq_true, isZero_iff_scaled]
    exact hpos.ne'
  exact inRange_plusZero_of_roundsTo (roundsTo_div hff hffs hnz) hpos hhi (mul_nonneg hlf unit_pos.le)
    (mul_le_mul huf hle unit_pos.le (hlf.trans huf))

/-- A sum that is not negative and whose first operand has the plus sign has the plus sign, at zero too. -/
theorem exists_sum?_of_nonneg {a b : Word} (ha : isFinite a = true) (hb : isFinite b = true) (hs : sign a = false)
    (h : 0 ≤ scaled a + scaled b) : ∃ r, sum? a b = some r ∧ sign r = false := by
  simp only [sum?, isNaN_of_isFinite, isInf_of_isFinite, ha, hb, Bool.or_self, Bool.false_eq_true, ↓reduceIte,
    Option.some.injEq, exists_eq_left']
  split
  · simp [hs, sign_pack]
  · simpa [sign_round149] using h

/-! ## Phases -/

/-- The words of [0, 1) are those with the plus sign and a value below 1. -/
theorem phaseOk_iff (w : Word) : phaseOk w ↔ sign w = false ∧ scaled w < (unit : Int) := by
  have hmono := magOfBits_strictMono.lt_iff_lt (a := magBits w) (b := 0x3F800000)
  rw [show magOfBits 0x3F800000 = unit by decide, ← mag_eq_magOfBits] at hmono
  have hword : phaseOk w ↔ sign w = false ∧ magBits w < 0x3F800000 := by
    rw [sign, magBits, decide_eq_false_iff_not]
    omega
  rw [hword]
  refine and_congr_right fun hs => ?_
  rw [← hmono, scaled, hs, if_neg Bool.false_ne_true, Nat.cast_lt]

theorem inRange_of_phaseOk {w : Word} (h : phaseOk w) : inRange plusZero (lit 1 1) w := by
  obtain ⟨hs, hlt⟩ := (phaseOk_iff w).1 h
  refine (inRange_plusZero_iff (by decide)).2 ⟨?_, ?_, scaled_one ▸ hlt.le⟩
  · rw [isFinite, magBits, decide_eq_true_eq]
    omega
  · rw [scaled, hs, if_neg Bool.false_ne_true]
    exact Int.natCast_nonneg _

/-- R15: the fractional part of a finite value with the plus sign is a phase; where it is zero it is +0.0. -/
theorem phaseOk_frac {x : Word} (hx : isFinite x = true) (hs : sign x = false) : phaseOk (frac x) := by
  obtain ⟨hfloor, hscaled⟩ := floor_of_isFinite hx
  have hdiff : 0 ≤ scaled x + scaled (neg (floor x)) := by
    have hle := Int.ediv_mul_le (scaled x) unit_pos.ne'
    rw [scaled_neg, hscaled]
    omega
  obtain ⟨r, hsum, hsign⟩ := exists_sum?_of_nonneg hx ((isFinite_neg _).trans hfloor) hs hdiff
  refine (phaseOk_iff _).2 ⟨?_, ?_⟩
  · rw [frac, sub_of_sum? hsum, hsign]
  · rw [fracIsExactOnNonNegatives x hx hs]
    exact Int.emod_lt_of_pos _ unit_pos

/-- 42_voice_generator R240: the advance of a phase is a phase, at a valid rate and a frequency in [0, 12000]. The sum
before `frac` is below 12288.0, so finite, and has the plus sign, so no -0.0 comes out. -/
theorem phaseOk_advancePhase {fs f ph : Word} (hfs : validRate fs = true) (hf : inRange plusZero (lit 12000 1) f)
    (hph : phaseOk ph) : phaseOk (advancePhase fs f ph) := by
  have hphr := inRange_of_phaseOk hph
  have hdr := div_inRange hfs (by decide) hf
  have hsr : inRange plusZero 0x46400000#32 (add ph (div f fs)) :=
    add_inRange (by decide) (by decide) (by decide) (by decide) hphr hdr
  obtain ⟨hpf, hp, -⟩ := (inRange_plusZero_iff (by decide)).1 hphr
  obtain ⟨hdf, hd, -⟩ := (inRange_plusZero_iff (by decide)).1 hdr
  obtain ⟨r, hsum, hsign⟩ := exists_sum?_of_nonneg hpf hdf ((phaseOk_iff ph).1 hph).1 (add_nonneg hp hd)
  exact phaseOk_frac ((inRange_plusZero_iff (by decide)).1 hsr).1 (by rw [add_of_sum? hsum, hsign])

/-! ## The frequencies of the machine -/

/-- 43_modulation R269: the oscillator clamp holds whatever the pitch path gives, a NaN included. -/
theorem clampFreq_inRange (f : Word) : inRange plusZero (lit 12000 1) (clampFreq f) :=
  inRange_mono (by decide) (by decide) (clamp_inRange f (by decide))

/-- An LFO's frequency `a + b * x` for a slot `x` in [0, 1]. -/
theorem lfoRate_inRange {a b x : Word} (ha : inRange plusZero (lit 1 1) a) (hb : inRange plusZero (lit 20 1) b)
    (hx : inRange plusZero (lit 1 1) x) : inRange plusZero (lit 12000 1) (add a (mul b x)) := by
  obtain ⟨hfb, hpos, hle⟩ := (inRange_plusZero_iff (by decide)).1 hb
  refine add_inRange (by decide) hfb (by decide) ?_ ha (mul_inRange hfb hpos hx)
  calc scaled (lit 1 1) + scaled b ≤ scaled (lit 1 1) + scaled (lit 20 1) := by omega
    _ ≤ scaled (lit 12000 1) := by decide

theorem wobbleRate_inRange {S : Snapshot} (h : inRange plusZero (lit 1 1) S.wobSpd) :
    inRange plusZero (lit 12000 1) (wobbleRate S) :=
  lfoRate_inRange (by decide) (by decide) h

theorem sweepRate_inRange {S : Snapshot} (h : inRange plusZero (lit 1 1) S.swpRate) :
    inRange plusZero (lit 12000 1) (sweepRate S) :=
  lfoRate_inRange (by decide) (by decide) h

theorem reverbRate_inRange : inRange plusZero (lit 12000 1) reverbRate := by decide

/-! ## Commands -/

/-- The two ends of PROCESS after INIT. -/
theorem processFrame_cases (cfg : Params) (s : State) :
    processFrame cfg s = mutedFrame s ∨ processFrame cfg s = frame cfg s := by
  unfold processFrame
  split
  · exact .inl rfl
  · exact .inr rfl

/-- R184, R187: a control tick as its knob tick, on the state the selection and the mute event leave. -/
theorem controlTick_eq (cfg : Params) (delta : Int) (mute : Bool) (s : State) :
    controlTick cfg delta mute s = knobTick cfg (knobIn s.data)
      (if delta = 0 then { s with muted := s.muted ^^ mute }
        else { s with currentParam := selectSlot s.currentParam delta, locked := true, lockReference := knobIn s.data,
                      muted := s.muted ^^ mute }) := by
  by_cases hd : delta = 0 <;> cases mute <;> simp [controlTick, muteEvent, selectionEvent, lockAt, toggleMute, hd]

/-- R187, R190: a control tick writes the selected slot, if it found the lock open and had no selection; in every other
case it writes the controller's own elements and no slot. -/
theorem controlTick_cases (cfg : Params) (delta : Int) (mute : Bool) (s : State) :
    (delta = 0 ∧ s.locked = false ∧
        ∃ m, controlTick cfg delta mute s = writeSlot cfg (knobIn s.data) { s with muted := m }) ∨
      ∃ p l r m, controlTick cfg delta mute s =
        { s with currentParam := p, locked := l, lockReference := r, muted := m } := by
  rw [controlTick_eq]
  split
  case isTrue hd =>
    rcases knobTick_cases cfg (knobIn s.data) { s with muted := s.muted ^^ mute } with hk | hk | ⟨hl, hk⟩ <;> rw [hk]
    · exact .inr ⟨_, _, _, _, rfl⟩
    · exact .inr ⟨_, _, _, _, rfl⟩
    · exact .inl ⟨hd, hl, _, rfl⟩
  case isFalse =>
    refine .inr ?_
    rcases knobTick_cases cfg (knobIn s.data) { s with
      currentParam := selectSlot s.currentParam delta, locked := true, lockReference := knobIn s.data,
      muted := s.muted ^^ mute } with hk | hk | ⟨hl, -⟩
    · exact ⟨_, _, _, _, hk⟩
    · exact ⟨_, _, _, _, hk⟩
    · cases hl

/-! ## STATUS -/

/-- R40: no command clears a bit of STATUS. -/
theorem effect_status (i : Instr) (s : State) :
    (s.initDone = true → (effect i s).initDone = true) ∧ (s.err = true → (effect i s).err = true) := by
  cases i with
  | init => rcases initFromData_cases implementation s with ⟨-, hi⟩ | ⟨-, hi⟩ <;> simp [effect, hi]
  | process => rcases processFrame_cases implementation s with hp | hp <;> simp [effect, hp]
  | updateControls delta mute =>
    rcases controlTick_cases implementation delta mute s with ⟨-, -, m, hc⟩ | ⟨p, l, r, m, hc⟩ <;> simp [effect, hc]
  | randomize => simp [effect]
  | reset => simp [effect, resetController]
  | _ => exact ⟨id, id⟩

theorem statusWord_bits (s : State) :
    (statusWord s).getLsbD 0 = s.initDone ∧ (statusWord s).getLsbD 1 = s.err ∧ (statusWord s).toNat < 2 ^ 2 := by
  cases hi : s.initDone <;> cases he : s.err <;> simp [statusWord, boolWord, hi, he]

/-- R33, R190: a control tick keeps the store, but for the selected slot where it found the lock open. -/
theorem controlTick_params (cfg : Params) (delta : Int) (mute : Bool) (s : State) :
    (controlTick cfg delta mute s).params = s.params ∨
      (delta = 0 ∧ s.locked = false ∧
        (controlTick cfg delta mute s).params =
          s.params.set s.currentParam.val (forward cfg s.currentParam (knobIn s.data))) := by
  rcases controlTick_cases cfg delta mute s with ⟨hd, hl, m, hc⟩ | ⟨p, l, r, m, hc⟩ <;> rw [hc]
  · exact .inr ⟨hd, hl, rfl⟩
  · exact .inl rfl

/-! ## The invariant -/

/-- What of the state the clauses of `Inv` but the one on the store speak of. -/
def datapath (s : State) : Bool × Word × Word × Word × Word × ChannelState × ChannelState :=
  (s.initDone, s.fs, s.phWob, s.phSwp, s.phRev, s.left, s.right)

/-- A change outside the datapath keeps the invariant if it keeps the clause on the store. -/
theorem Inv.of_datapath_eq {s t : State} (h : Inv s) (hd : datapath t = datapath s) (hslots : slotsOk t) : Inv t := by
  simp only [datapath, Prod.mk.injEq] at hd
  obtain ⟨hinit, hfs, hwob, hswp, hrev, hl, hr⟩ := hd
  have hch (c : Chan) : channel t c = channel s c := by
    cases c
    · exact hl
    · exact hr
  refine ⟨?_, ?_, ?_, ?_, hslots, ?_⟩
  · simpa only [storageOk, hch] using h.storage
  · simpa only [lengthsOk, hch, hinit] using h.lengths
  · simpa only [lockstepOk, hch] using h.lockstep
  · simpa only [rateOk, hinit, hfs] using h.rate
  · simpa only [phasesOk, hch, hwob, hswp, hrev] using h.phases

/-- R154: every command but INIT and PROCESS leaves the datapath. -/
theorem datapath_effect {i : Instr} (hi : i ≠ .init) (hp : i ≠ .process) (s : State) :
    datapath (effect i s) = datapath s := by
  cases i with
  | init => exact absurd rfl hi
  | process => exact absurd rfl hp
  | updateControls delta mute =>
    rcases controlTick_cases implementation delta mute s with ⟨-, -, m, hc⟩ | ⟨p, l, r, m, hc⟩ <;>
      rw [effect, hc] <;> rfl
  | randomize => simp [datapath, effect]
  | reset => simp [datapath, effect, resetController]
  | _ => rfl

/-! ## The store -/

/-- R31, R32: every slot but slot 0 is in [0, 1]. -/
def SlotsInRange (p : Vector Word 14) : Prop := ∀ i : Fin 14, i ≠ 0 → inRange plusZero (lit 1 1) p[i]

theorem slotsInRange_defaults : SlotsInRange (Vector.ofFn implementation.paramDefault) := by
  intro i hi
  simpa [slotMin, slotMax, hi] using paramsLegal_implementation.2.2 i

/-- R183, R198: every draw but that of slot 0 is in [0, 1], as its sub-range is. -/
theorem slotsInRange_draws (n : Nat) : SlotsInRange (Vector.ofFn (drawSlot n)) := by
  have hsub : ∀ i : Fin 14, i ≠ 0 → le plusZero randomMin[i] = true ∧ le randomMin[i] randomMax[i] = true ∧
      le randomMin[i] randomMin[i] = true ∧ le randomMax[i] (lit 1 1) = true := by decide
  intro i hi
  obtain ⟨hmin, hle, hrefl, hmax⟩ := hsub i hi
  simpa [drawSlot] using inRange_mono hmin hmax (within_range (Config.draw (n + i.val)) hle hrefl)

/-- R181, R185: a write of the knob, clamped, to any slot keeps slots 1 to 13 in [0, 1]. -/
theorem SlotsInRange.set_forward {p : Vector Word 14} (h : SlotsInRange p) (k : Word) (j : Fin 14) :
    SlotsInRange (p.set j.val (forward implementation j (knobIn k))) := by
  intro i hi
  by_cases hij : i = j
  · subst hij
    simpa [forward, hi, knobIn] using clamp_inRange k (by decide : le plusZero (lit 1 1) = true)
  · have hne : j.val ≠ i.val := fun hv => hij (Fin.ext hv.symm)
    simpa [hne] using h i hi

theorem slotsInRange_effect {s : State} (h : SlotsInRange s.params) (i : Instr) :
    SlotsInRange (effect i s).params := by
  cases i with
  | init =>
    rcases initFromData_cases implementation s with ⟨-, hi⟩ | ⟨-, hi⟩ <;> rw [effect, hi]
    · exact initState_params _ _ s ▸ slotsInRange_defaults
    · exact h
  | process => rcases processFrame_cases implementation s with hp | hp <;> rw [effect, hp] <;> exact h
  | updateControls delta mute =>
    rcases controlTick_params implementation delta mute s with hp | ⟨-, -, hp⟩ <;> rw [effect, hp]
    · exact h
    · exact h.set_forward _ _
  | randomize => exact slotsInRange_draws s.drawCount
  | reset => exact slotsInRange_defaults
  | _ => exact h

/-! ## The channels in a frame -/

/-- What the invariant says of channel `c` after INIT. -/
structure ChannelOk (c : Chan) (ch : ChannelState) : Prop where
  comb : ∀ i : Fin 8, lineOk Config.combCap ch.comb[i] ∧
    Config.combLenMin ≤ ch.comb[i].len ∧ ch.comb[i].len ≤ Config.combLenMax
  ap : ∀ j : Fin 4, lineOk Config.apCap ch.ap[j] ∧ ch.ap[j].len = apLength implementation c j
  lockstep : ch.phA = ch.phB
  phase : phaseOk ch.phA

theorem Inv.channelOk {s : State} (h : Inv s) (hs : s.initDone = true) (c : Chan) : ChannelOk c (channel s c) := by
  obtain ⟨hcomb, hap⟩ := h.storage c
  obtain ⟨hcombLen, hapLen⟩ := h.lengths hs c
  obtain ⟨-, -, -, hphases⟩ := h.phases
  exact ⟨fun i => ⟨hcomb i, hcombLen i⟩, fun j => ⟨hap j, hapLen j⟩, h.lockstep c, (hphases c).1⟩

theorem inv_of_channelOk {s : State} (h : ∀ c, ChannelOk c (channel s c)) (hrate : validRate s.fs = true)
    (hslots : SlotsInRange s.params) (hwob : phaseOk s.phWob) (hswp : phaseOk s.phSwp) (hrev : phaseOk s.phRev) :
    Inv s where
  storage c := ⟨fun i => ((h c).comb i).1, fun j => ((h c).ap j).1⟩
  lengths _ c := ⟨fun i => ((h c).comb i).2, fun j => ((h c).ap j).2⟩
  lockstep c := (h c).lockstep
  rate _ := hrate
  slots _ := hslots
  phases := ⟨hwob, hswp, hrev, fun c => ⟨(h c).phase, (h c).lockstep ▸ (h c).phase⟩⟩

theorem phaseOk_plusZero : phaseOk plusZero := by decide

theorem channelOk_fresh (c : Chan) : ChannelOk c (freshChannel implementation c) where
  comb i := by
    rw [freshChannel_comb]
    exact ⟨freshLine_lineOk _ (by decide), combLength_range implementation c i 0⟩
  ap j := by
    rw [freshChannel_ap]
    exact ⟨freshLine_lineOk _ (by decide), rfl⟩
  lockstep := rfl
  phase := freshChannel_phA implementation c ▸ phaseOk_plusZero

theorem channelOk_channelFrame {c : Chan} {ch : ChannelState} (h : ChannelOk c ch) {fs f : Word}
    (hfs : validRate fs = true) (hf : inRange plusZero (lit 12000 1) f) (dampA : Word) (S : Snapshot) :
    ChannelOk c (channelFrame implementation fs dampA S c f ch).2 := by
  obtain ⟨p, q, d, hch⟩ := channelFrame_channel implementation fs dampA S c f ch
  rw [hch]
  exact ⟨h.comb, h.ap, congrArg (advancePhase fs f) h.lockstep, phaseOk_advancePhase hfs hf h.phase⟩

theorem channelOk_combBank {c : Chan} {ch : ChannelState} (h : ChannelOk c ch) (off : Int) (feedback damping x : Word) :
    ChannelOk c (combBank implementation c off feedback damping x ch).2 where
  comb i := by
    obtain ⟨hline, hlen⟩ :=
      combStep_line (combLength implementation c i off) feedback damping x _ ch.cds[i] (h.comb i).1
    rw [combBank_line, combAt, hlen]
    exact ⟨hline, combLength_range implementation c i off⟩
  ap := h.ap
  lockstep := h.lockstep
  phase := h.phase

theorem channelOk_apAt {c : Chan} {p : Word × ChannelState} (h : ChannelOk c p.2) (j : Fin 4) :
    ChannelOk c (apAt implementation c j p).2 where
  comb := h.comb
  ap k := by
    rw [apAt_line]
    split
    case isTrue hk =>
      subst hk
      exact apStep_line _ _ _ (h.ap k).1
    case isFalse => exact h.ap k
  lockstep := h.lockstep
  phase := h.phase

theorem channelOk_reverbChannel {c : Chan} {ch : ChannelState} (h : ChannelOk c ch) (S : Snapshot) (off : Int)
    (x : Word) : ChannelOk c (reverbChannel implementation S off c x ch).2 :=
  channelOk_apAt (channelOk_apAt (channelOk_apAt (channelOk_apAt
    (channelOk_combBank h off (feedbackOf S) (dampingOf S) x) 0) 1) 2) 3

/-- 45_reverb R345, R348, R355: what a reverb stage keeps, bypassed or not. -/
theorem reverb_keeps_ok {fs ph : Word} {l r : ChannelState} (hfs : validRate fs = true) (hph : phaseOk ph)
    (hl : ChannelOk .left l) (hr : ChannelOk .right r) (S : Snapshot) (ul ur : Word) :
    ChannelOk .left (reverb implementation fs S ul ur ph l r).left ∧
      ChannelOk .right (reverb implementation fs S ul ur ph l r).right ∧
      phaseOk (reverb implementation fs S ul ur ph l r).phRev := by
  by_cases hb : bypassed S.rvAmt = true
  · rw [reverb_bypassed hb]
    exact ⟨hl, hr, hph⟩
  · rw [reverb, if_neg hb]
    dsimp only
    refine ⟨channelOk_reverbChannel hl S (modOffset implementation S ph) ul,
      channelOk_reverbChannel hr S (modOffset implementation S ph) ur, ?_⟩
    exact phaseOk_advancePhase hfs reverbRate_inRange hph

theorem inv_frame {s : State} (h : Inv s) (hs : s.initDone = true) : Inv (frame implementation s) := by
  have hfs := h.rate hs
  have hslots := h.slots hs
  obtain ⟨hwob, hswp, hrev, -⟩ := h.phases
  obtain ⟨hl, hr, hrev'⟩ := reverb_keeps_ok hfs hrev
    (channelOk_channelFrame (h.channelOk hs .left) hfs (clampFreq_inRange _) s.dampA (snapshot s.params))
    (channelOk_channelFrame (h.channelOk hs .right) hfs (clampFreq_inRange _) s.dampA (snapshot s.params))
    (snapshot s.params) _ _
  refine inv_of_channelOk (fun c => ?_) hfs hslots ?_ ?_ hrev'
  · cases c
    · exact hl
    · exact hr
  · exact phaseOk_advancePhase hfs (wobbleRate_inRange (hslots 11 (by decide))) hwob
  · exact phaseOk_advancePhase hfs (sweepRate_inRange (hslots 13 (by decide))) hswp

theorem inv_initState {fs : Word} (h : validRate fs = true) (s : State) : Inv (initState implementation fs s) := by
  refine inv_of_channelOk (fun c => ?_) ?_ ?_ ?_ ?_ ?_
  · cases c
    · rw [channel_left, initState_left]
      exact channelOk_fresh .left
    · rw [channel_right, initState_right]
      exact channelOk_fresh .right
  · rwa [initState_fs]
  · exact initState_params implementation fs s ▸ slotsInRange_defaults
  · exact initState_phWob implementation fs s ▸ phaseOk_plusZero
  · exact initState_phSwp implementation fs s ▸ phaseOk_plusZero
  · exact initState_phRev implementation fs s ▸ phaseOk_plusZero

theorem inv_effect {i : Instr} {s : State} (h : Inv s) (hg : i = .nop ∨ i = .init ∨ s.initDone = true) :
    Inv (effect i s) := by
  by_cases hi : i = .init
  · subst hi
    rcases initFromData_cases implementation s with ⟨hv, hi⟩ | ⟨-, hi⟩ <;> rw [effect, hi]
    · exact inv_initState hv s
    · exact h.of_datapath_eq rfl h.slots
  rcases hg with rfl | rfl | hs
  · exact h
  · exact absurd rfl hi
  have hslots : slotsOk (effect i s) := fun _ => slotsInRange_effect (h.slots hs) i
  by_cases hp : i = .process
  · subst hp
    rcases processFrame_cases implementation s with hp | hp
    · exact h.of_datapath_eq (by rw [effect, hp]; rfl) hslots
    · rw [effect, hp]
      exact inv_frame h hs
  · exact h.of_datapath_eq (datapath_effect hi hp s) hslots

/-! ## What the host can see before INIT -/

/-- What O16 claims of the two next states: the ports and INIT_DONE agree, and with INIT_DONE set the states are the
same. -/
structure Indistinct (t t' : State) : Prop where
  ports : PortsAgree t t'
  initDone : t.initDone = t'.initDone
  same : t.initDone = true → t = t'

/-- `Indistinct` of the next states, where both outcomes are one. -/
def OutcomesIndistinct (o o' : Host.Outcome State Fault Refusal) : Prop :=
  ∀ t t', o = .next t → o' = .next t' → Indistinct t t'

theorem outcomesIndistinct_next {t t' : State} (h : Indistinct t t') : OutcomesIndistinct (.next t) (.next t') := by
  intro u u' hu hu'
  cases hu
  cases hu'
  exact h

/-- R152: INIT sets every element in which the two states may differ. -/
theorem initState_eq {s s' : State} (h : PortsAgree s s') (cfg : Params) (fs : Word) :
    initState cfg fs s = initState cfg fs s' := by
  obtain ⟨hdata, hresult, -, -, herr, hbus, hread, hdraw⟩ := h
  simp only [initState, restoreDefaults, hdata, hresult, herr, hbus, hread, hdraw]

section
variable {s s' : State} (hs : s.initDone = false) (hs' : s'.initDone = false) (h : PortsAgree s s')
include hs hs' h

theorem indistinct_of_portsAgree : Indistinct s s' :=
  ⟨h, hs.trans hs'.symm, fun ht => absurd ht (by simp [hs])⟩

theorem indistinct_raiseFault (r : FaultReason) : Indistinct (raiseFault r s) (raiseFault r s') :=
  indistinct_of_portsAgree hs hs' { h with err := rfl }

theorem indistinct_initFromData (cfg : Params) : Indistinct (initFromData cfg s) (initFromData cfg s') := by
  rw [initFromData, initFromData, ← h.data, ← initState_eq h]
  split
  · exact ⟨⟨rfl, rfl, rfl, rfl, rfl, rfl, rfl, rfl⟩, rfl, fun _ => rfl⟩
  · exact indistinct_raiseFault hs hs' h _

/-- R403: before INIT, NOP and INIT alone do more than fault. -/
theorem outcomesIndistinct_exec (i : Instr) : OutcomesIndistinct (exec i s) (exec i s') := by
  rw [exec_next, exec_next]
  apply outcomesIndistinct_next
  by_cases hi : i = .init
  · subst hi
    simpa [effect] using indistinct_initFromData hs hs' h implementation
  by_cases hn : i = .nop
  · subst hn
    simpa [effect] using indistinct_of_portsAgree hs hs' h
  · simpa [hi, hn, hs, hs'] using indistinct_raiseFault hs hs' h _

theorem outcomesIndistinct_command (w : Word) : OutcomesIndistinct (command w s) (command w s') := by
  cases hd : decode w with
  | ok i =>
    rw [command_ok hd, command_ok hd]
    exact outcomesIndistinct_exec hs hs' h i
  | error e =>
    rw [command_illegal hd, command_illegal hd]
    exact outcomesIndistinct_next (indistinct_raiseFault hs hs' h _)

theorem outcomesIndistinct_writeRegister (o : Nat) (w : Word) :
    OutcomesIndistinct (writeRegister o w s) (writeRegister o w s') := by
  unfold writeRegister
  split
  · exact outcomesIndistinct_command hs hs' h w
  · exact outcomesIndistinct_next (indistinct_of_portsAgree hs hs' { h with data := rfl })
  · exact outcomesIndistinct_next (indistinct_raiseFault hs hs' h _)

/-- R52, R81: what a host read returns is a port register or STATUS. -/
theorem readRegister_eq (o : Nat) : readRegister s o = readRegister s' o := by
  obtain ⟨hdata, hresult, houtL, houtR, herr, -, -, -⟩ := h
  have hstatus : statusWord s = statusWord s' := by rw [statusWord, statusWord, hs, hs', herr]
  unfold readRegister
  rw [hdata, hresult, houtL, houtR, hstatus]

theorem outcomesIndistinct_serve (a : HostAccess) : OutcomesIndistinct (serve a s) (serve a s') := by
  intro t t' ht ht'
  cases a with
  | read o n =>
    refine outcomesIndistinct_next ?_ t t' (checkAccess_next ht) (checkAccess_next ht')
    exact indistinct_of_portsAgree hs hs' { h with readData := congrArg some (readRegister_eq hs hs' h o) }
  | write o n w =>
    exact outcomesIndistinct_writeRegister hs hs' h o w t t' (checkAccess_next ht) (checkAccess_next ht')

theorem outcomesIndistinct_step : OutcomesIndistinct (step s) (step s') := by
  unfold step serveNext
  rw [← h.hostBus]
  cases s.hostBus with
  | nil => exact outcomesIndistinct_next (indistinct_of_portsAgree hs hs' h)
  | cons a rest =>
    exact outcomesIndistinct_serve (s := { s with hostBus := rest }) (s' := { s' with hostBus := rest }) hs hs'
      { h with hostBus := rfl } a

end

end Sys2Proof.Machine

namespace Sys2Proof

/-! ## The statements -/

open Sys2Proof.Machine Sys2Proof.F32

/-- Settles O16, by `outcomesIndistinct_step`: before INIT a step reads nothing but what the two states agree on. -/
theorem powerUpValuesAreNeverObserved : Obligations.PowerUpValuesAreNeverObserved := by
  intro s s' t t' hs hs' h ht ht'
  obtain ⟨hports, hinit, hsame⟩ := outcomesIndistinct_step hs hs' h t t' ht ht'
  exact ⟨hports, hinit, hsame⟩

/-- Settles O60: what a step does to the bus, DATA, `readData` and `err` is outside the invariant, and the effect of a
command keeps it (`inv_effect`). -/
theorem stepKeepsTheInvariant : Obligations.StepKeepsTheInvariant := by
  intro s t h ht
  rcases step_cases ht with ⟨-, rfl⟩ | ⟨a, rest, -, ⟨o, rfl⟩ | ⟨w, rfl⟩ | ⟨r, rfl⟩ | ⟨i, w, -, hg, rfl⟩⟩
  · exact h
  · exact h.of_datapath_eq rfl h.slots
  · exact h.of_datapath_eq rfl h.slots
  · exact h.of_datapath_eq rfl h.slots
  · exact inv_effect (h.of_datapath_eq (t := { s with hostBus := rest }) rfl h.slots) hg

/-- Settles O11: a step sets `err`, or it leaves STATUS, or it has a command's effect (`effect_status`). -/
theorem stepNeverClearsStatus : Obligations.StepNeverClearsStatus := by
  intro s t ht
  rcases step_cases ht with ⟨-, rfl⟩ | ⟨a, rest, -, ⟨o, rfl⟩ | ⟨w, rfl⟩ | ⟨r, rfl⟩ | ⟨i, w, -, -, rfl⟩⟩
  · exact ⟨id, id⟩
  · exact ⟨id, id⟩
  · exact ⟨id, id⟩
  · exact ⟨id, fun _ => rfl⟩
  · exact effect_status i { s with hostBus := rest }

/-- Settles O27, by the command; a control tick by `controlTick_params`. -/
theorem onlyControlCommandsWriteTheStore : Obligations.OnlyControlCommandsWriteTheStore := by
  intro i s t ht hne
  rw [exec_next] at ht
  cases ht
  split at hne
  case isFalse => exact absurd rfl hne
  case isTrue hg =>
    rw [if_pos hg]
    cases i with
    | init => exact .inl rfl
    | randomize => exact .inr (.inl rfl)
    | reset => exact .inr (.inr (.inl rfl))
    | updateControls delta mute =>
      rcases controlTick_params implementation delta mute s with hp | ⟨rfl, hl, hp⟩
      · exact absurd hp hne
      · refine .inr (.inr (.inr ⟨mute, rfl, hl, fun j hj => ?_⟩))
        rw [effect, hp]
        exact Vector.getElem_set_ne _ _ (fun h => hj (Fin.ext h.symm))
    | process => rcases processFrame_cases implementation s with hp | hp <;> simp [effect, hp] at hne
    | _ => exact absurd rfl hne

/-- Settles O10: bits 0 and 1 for each value of the two flags, the others because the word is below 4. -/
theorem statusWordHasTwoBits : Obligations.StatusWordHasTwoBits := by
  intro s
  obtain ⟨hinit, herr, hlt⟩ := statusWord_bits s
  exact ⟨hinit, herr, fun n hn => Nat.testBit_lt_two_pow (hlt.trans_le (Nat.pow_le_pow_right two_pos hn))⟩

/-- Settles O15: they are the values `State.reset` is written with, and the STATUS word of two cleared flags is 0. -/
theorem powerUpPortRegistersAreZero : Obligations.PowerUpPortRegistersAreZero := ⟨rfl, rfl, rfl, rfl, rfl⟩

/-- Settles O34: a muted frame writes the outputs, an unmuted one what `writeFrame` writes. -/
theorem processWritesOutputsAndDatapathOnly : Obligations.ProcessWritesOutputsAndDatapathOnly := by
  intro s hs
  refine ⟨_, whenInitialized_ready hs, ?_⟩
  rcases processFrame_cases implementation s with hp | hp <;> rw [hp] <;> rfl

/-- Settles O59: the lines are empty, the phases +0.0, and INIT_DONE is not set. -/
theorem invariantHoldsAtReset : Obligations.InvariantHoldsAtReset where
  storage c := by cases c <;> exact ⟨by decide, by decide⟩
  lengths h := by cases h
  lockstep c := by cases c <;> rfl
  rate h := by cases h
  slots h := by cases h
  phases := ⟨by decide, by decide, by decide, fun c => by cases c <;> exact ⟨by decide, by decide⟩⟩

end Sys2Proof
end

section
/-! PROOFS. The host port (20_memory R80 to R88): the statements O6 to O9.

The idea: a step is the service of the first access on the bus (`step_of_hostBus`), and what `checkAccess` does with the
access is settled by its size and offset alone. -/

namespace Sys2Proof.Machine

/-! ## Serving an access -/

/-- R85: a step serves the access that arrives, in the state that no longer has it on the bus. -/
theorem step_of_hostBus {s : State} {a : HostAccess} {rest : List HostAccess} (h : s.hostBus = a :: rest) :
    step s = serve a { s with hostBus := rest } := by
  simp [step, serveNext, h]

theorem alignedWord_iff (o n : Nat) : alignedWord o n = true ↔ n = 4 ∧ o % 4 = 0 := by
  simp [alignedWord]

theorem checkAccess_of_aligned {o : Nat} (ho : o < 256) (ha : o % 4 = 0)
    (served : Host.Outcome State Fault Refusal) : checkAccess o 4 served = served := by
  rw [checkAccess, windowSize, if_neg (Nat.not_le.mpr ho), if_pos ((alignedWord_iff o 4).mpr ⟨rfl, ha⟩)]

theorem checkAccess_of_not_aligned {o n : Nat} (ho : o < 256) (hn : n ≠ 4 ∨ o % 4 ≠ 0)
    (served : Host.Outcome State Fault Refusal) : checkAccess o n served = .refused .accessNotAlignedWord := by
  have hna : ¬ alignedWord o n = true := by
    rw [alignedWord_iff]
    tauto
  rw [checkAccess, windowSize, if_neg (Nat.not_le.mpr ho), if_neg hna]

/-! ## The register map -/

/-- R40: STATUS as the sum of its two bits' words. -/
theorem statusWord_eq_ite (s : State) :
    statusWord s = (if s.initDone then 1#32 else 0#32) ||| (if s.err then 2#32 else 0#32) := by
  cases h : s.err <;> simp [statusWord, boolWord, h]

/-- R81: CMD, at offset 0, reads as the reserved offsets do. -/
theorem readRegister_eq_ite (s : State) (o : Nat) :
    readRegister s o = if o = 4 then s.data else if o = 8 then s.result else if o = 12 then s.outL
      else if o = 16 then s.outR else if o = 20 then statusWord s else 0#32 := by
  unfold readRegister
  split
  case h_7 h0 h4 h8 h12 h16 h20 => rw [if_neg h4, if_neg h8, if_neg h12, if_neg h16, if_neg h20]
  all_goals rfl

/-- R84: every offset but those of CMD and DATA is read-only or reserved. -/
theorem writeRegister_of_ne {o : Nat} (h0 : o ≠ 0) (h4 : o ≠ 4) (w : Word) (s : State) :
    writeRegister o w s = .next (raiseFault .writeToReadonlyOrReserved s) := by
  unfold writeRegister
  split
  · exact absurd rfl h0
  · exact absurd rfl h4
  · rfl

end Sys2Proof.Machine

namespace Sys2Proof

/-! ## The statements -/

open Sys2Proof.Machine

/-- Settles O6: a write to CMD is served as the command its word decodes to. -/
theorem stepRunsTheDecodedCommand : Obligations.StepRunsTheDecodedCommand := by
  intro s rest w i hb hd
  rw [step_of_hostBus hb, commandWrite_served, command_ok hd]

/-- Settles O7, by the register map (`readRegister_eq_ite`). -/
theorem hostReadReturnsRegister : Obligations.HostReadReturnsRegister := by
  intro s rest o hb ha ho
  rw [step_of_hostBus hb, serve, checkAccess_of_aligned ho ha, readRegister_eq_ite, statusWord_eq_ite]

/-- Settles O8, by `writeRegister_of_ne` from offset 8 on. -/
theorem writesOfOtherRegisters : Obligations.WritesOfOtherRegisters := by
  refine ⟨fun s rest o w hb ha h8 ho => ?_, fun s rest w hb => ?_⟩
  · rw [step_of_hostBus hb, serve, checkAccess_of_aligned ho ha, writeRegister_of_ne (by omega) (by omega), raiseFault]
  · rw [step_of_hostBus hb, serve, checkAccess_of_aligned (by decide) (by decide), writeRegister]

/-- Settles O9: `checkAccess` refuses whatever the access would have done. -/
theorem unalignedOrNarrowAccessRefused : Obligations.UnalignedOrNarrowAccessRefused := by
  intro s rest o n w ho hn
  refine ⟨fun hb => ?_, fun hb => ?_⟩ <;> rw [step_of_hostBus hb, serve, checkAccess_of_not_aligned ho hn]

end Sys2Proof
end

section
/-! PROOFS. The command words (30_encoding R110 to R122): the statements O1 to O5, and O25 on the selection.

The idea: OP numbers the rows of the opcode map. A row's mask keeps OP, so a row accepts only words with its own OP
(`op_of_accepts`), and `decode` is the row of the word's OP or nothing (`decode_eq_ok_iff`). A row builds the command
whose word has the row's match in the bits under the mask and the given word's bits in the others (`encode_build`). -/

namespace Sys2Proof

open Sys2Proof.Machine

/-! ## The fields of a word (R110) -/

theorem idxField_or (x y : Word) : idxField (x ||| y) = idxField x ||| idxField y := BitVec.extractLsb'_or

theorem idxField_setWidth_shiftLeft (b : BitVec 8) : idxField (b.setWidth 32 <<< 16) = b := by
  ext j hj
  simp [idxField, show 16 + j < 32 by omega, hj]

theorem idxField_or_setWidth_shiftLeft {p : Word} (hp : idxField p = 0#8) (b : BitVec 8) :
    idxField (p ||| b.setWidth 32 <<< 16) = b := by
  rw [idxField_or, hp, idxField_setWidth_shiftLeft, BitVec.zero_or]

theorem muteField_or (x y : Word) : muteField (x ||| y) = (muteField x || muteField y) := BitVec.getLsbD_or

theorem muteField_setWidth_shiftLeft (b : BitVec 8) : muteField (b.setWidth 32 <<< 16) = false := by
  simp [muteField]

theorem setWidth_idxField_shiftLeft (w : Word) : (idxField w).setWidth 32 <<< 16 = w &&& 0x00FF0000#32 := by
  have hmask : 0x00FF0000#32 = (BitVec.allOnes 8).setWidth 32 <<< 16 := by decide
  ext j hj
  rw [hmask, BitVec.getElem_and]
  simp only [idxField, BitVec.getElem_shiftLeft, BitVec.getElem_setWidth, BitVec.getLsbD_extractLsb',
    BitVec.getLsbD_allOnes]
  grind

theorem ite_muteField (w : Word) : (if muteField w then 1#32 else 0#32) = w &&& 1#32 := by
  rw [BitVec.and_one_eq_setWidth_ofBool_getLsbD, muteField]
  cases w.getLsbD 0 <;> rfl

theorem deltaFits_toInt (b : BitVec 8) : deltaFits b.toInt = true := by
  have hlt := b.toInt_lt
  have hle := b.le_toInt
  simp only [deltaFits, decide_eq_true_eq]
  omega

theorem indexFits_toNat (b : BitVec 8) : indexFits b.toNat = true := by
  simpa [indexFits] using Nat.le_of_lt_succ b.isLt

/-! ## The rows of the opcode map by OP (R117) -/

/-- The row of an opcode: R117 lists the rows in the order of OP. -/
def opRow (op : Fin 11) : OpcodeRow := opcodeMap.get op

theorem mem_opcodeMap {r : OpcodeRow} : r ∈ opcodeMap ↔ ∃ op, opRow op = r := List.mem_iff_get

theorem mask_opRow (op : Fin 11) : (opRow op).mask =
    if op.val = 3 then 0xFF00FFFE#32 else if op.val = 8 ∨ op.val = 9 then 0xFF00FFFF#32 else 0xFFFFFFFF#32 := by
  revert op
  decide

theorem pattern_opRow (op : Fin 11) : (opRow op).pattern = BitVec.ofNat 32 (op.val * 2 ^ 28) := by
  revert op
  decide

/-- OP of a command's word (R117). -/
def Instr.op : Instr → Fin 11
  | .nop => 0
  | .init => 1
  | .process => 2
  | .updateControls _ _ => 3
  | .randomize => 4
  | .reset => 5
  | .isMuted => 6
  | .getCurrentParamIndex => 7
  | .getParamName _ => 8
  | .getParamValue _ => 9
  | .isParamLocked => 10

theorem mask_opRow_op (i : Instr) : (opRow i.op).mask = i.mask := by cases i <;> rfl

theorem pattern_opRow_op (i : Instr) : (opRow i.op).pattern = i.pattern := by cases i <;> rfl

theorem op_build (op : Fin 11) (w : Word) : ((opRow op).build w).op = op := by fin_cases op <;> rfl

/-- R112, R113: the operands a row takes from a word fit the word. -/
theorem wellFormed_build (op : Fin 11) (w : Word) : ((opRow op).build w).wellFormed = true := by
  match op with
  | 3 => exact deltaFits_toInt (idxField w)
  | 8 | 9 => exact indexFits_toNat (idxField w)
  | 0 | 1 | 2 | 4 | 5 | 6 | 7 | 10 => rfl

/-- R112 to R114: the operand bits of the command a row builds are the word's bits outside the mask. -/
theorem operandBits_build (op : Fin 11) (w : Word) :
    ((opRow op).build w).operandBits = w &&& ~~~(opRow op).mask := by
  have hidx : (BitVec.ofNat 8 (idxField w).toNat).setWidth 32 <<< 16 = w &&& ~~~0xFF00FFFF#32 := by
    rw [BitVec.ofNat_toNat, BitVec.setWidth_eq, setWidth_idxField_shiftLeft]
    rfl
  match op with
  | 3 =>
    change (BitVec.ofInt 8 (idxField w).toInt).setWidth 32 <<< 16 ||| (if muteField w then 1#32 else 0#32) =
      w &&& ~~~0xFF00FFFE#32
    rw [BitVec.ofInt_toInt, setWidth_idxField_shiftLeft, ite_muteField, ← BitVec.and_or_distrib_left]
    rfl
  | 8 | 9 => exact hidx
  | 0 | 1 | 2 | 4 | 5 | 6 | 7 | 10 => exact BitVec.and_zero.symm

/-- R112 to R114: the row of a command's word reads the command's operands back. -/
theorem build_encode {i : Instr} (h : i.wellFormed = true) : (opRow i.op).build (encode i) = i := by
  cases i with
  | updateControls delta mute =>
    have hidx : idxField (encode (.updateControls delta mute)) = BitVec.ofInt 8 delta := by
      rw [encode, Instr.operandBits, idxField_or, idxField_or, idxField_setWidth_shiftLeft]
      cases mute <;> simp [Instr.pattern, idxField]
    have hmute : muteField (encode (.updateControls delta mute)) = mute := by
      rw [encode, Instr.operandBits, muteField_or, muteField_or, muteField_setWidth_shiftLeft]
      cases mute <;> simp [Instr.pattern, muteField]
    change Instr.updateControls (idxField _).toInt (muteField _) = _
    rw [hidx, hmute, int8_roundtrip h]
  | getParamName index =>
    have hidx : idxField (encode (.getParamName index)) = BitVec.ofNat 8 index :=
      idxField_or_setWidth_shiftLeft (p := 0x80000000#32) (by decide) _
    change Instr.getParamName (idxField _).toNat = _
    rw [hidx, nat8_roundtrip h]
  | getParamValue index =>
    have hidx : idxField (encode (.getParamValue index)) = BitVec.ofNat 8 index :=
      idxField_or_setWidth_shiftLeft (p := 0x90000000#32) (by decide) _
    change Instr.getParamValue (idxField _).toNat = _
    rw [hidx, nat8_roundtrip h]
  | _ => rfl

/-! ## Decoding (R118 to R120) -/

/-- R118 for the word the encoder gives, whatever the operands. -/
theorem opRow_accepts_encode (i : Instr) : (opRow i.op).accepts (encode i) = true := by
  have hown : Laws.OwnRow.Statement i := by
    cases i with
    | nop => exact Laws.OwnRow.nop
    | init => exact Laws.OwnRow.init
    | process => exact Laws.OwnRow.process
    | updateControls delta mute => exact Laws.OwnRow.updateControls delta mute
    | randomize => exact Laws.OwnRow.randomize
    | reset => exact Laws.OwnRow.reset
    | isMuted => exact Laws.OwnRow.isMuted
    | getCurrentParamIndex => exact Laws.OwnRow.getCurrentParamIndex
    | getParamName index => exact Laws.OwnRow.getParamName index
    | getParamValue index => exact Laws.OwnRow.getParamValue index
    | isParamLocked => exact Laws.OwnRow.isParamLocked
  rw [OpcodeRow.accepts, mask_opRow_op, pattern_opRow_op, beq_iff_eq]
  exact hown

theorem accepts_opRow_iff {op : Fin 11} {w : Word} :
    (opRow op).accepts w = true ↔ w &&& (opRow op).mask = (opRow op).pattern := beq_iff_eq

theorem toNat_opField (w : Word) : (opField w).toNat = w.toNat / 2 ^ 28 := by
  have := w.isLt
  simp [opField, Nat.shiftRight_eq_div_pow]
  omega

theorem opField_mask_opRow (op : Fin 11) : opField (opRow op).mask = BitVec.allOnes 4 := by
  revert op
  decide

theorem opField_pattern_opRow (op : Fin 11) : (opField (opRow op).pattern).toNat = op := by
  revert op
  decide

/-- R120: a row accepts words of its own opcode alone, since OP is under every mask. -/
theorem op_of_accepts {op : Fin 11} {w : Word} (h : (opRow op).accepts w = true) : w.toNat / 2 ^ 28 = op := by
  calc w.toNat / 2 ^ 28 = (opField (w &&& (opRow op).mask)).toNat := by
        rw [opField, BitVec.extractLsb'_and, ← opField, ← opField, opField_mask_opRow, BitVec.and_allOnes,
          toNat_opField]
    _ = op := by rw [accepts_opRow_iff.mp h, opField_pattern_opRow]

/-- R118, R120: a word decodes to what the one row that accepts it builds. -/
theorem decode_eq_ok_iff {w : Word} {i : Instr} :
    decode w = .ok i ↔ ∃ op, (opRow op).accepts w = true ∧ (opRow op).build w = i := by
  unfold decode
  split
  case h_1 r hr =>
    obtain ⟨op, rfl⟩ := mem_opcodeMap.mp (List.mem_of_find?_eq_some hr)
    have hacc : (opRow op).accepts w = true := List.find?_some (p := fun r : OpcodeRow => r.accepts w) hr
    refine ⟨fun h => ⟨op, hacc, Except.ok.inj h⟩, ?_⟩
    rintro ⟨op', hacc', rfl⟩
    rw [Fin.ext ((op_of_accepts hacc).symm.trans (op_of_accepts hacc'))]
  case h_2 hnone =>
    refine ⟨fun h => (nomatch h), ?_⟩
    rintro ⟨op, hacc, -⟩
    exact absurd hacc (List.find?_eq_none.mp hnone _ (mem_opcodeMap.mpr ⟨op, rfl⟩))

theorem encode_build {op : Fin 11} {w : Word} (h : (opRow op).accepts w = true) :
    encode ((opRow op).build w) = w := by
  have hpattern : ((opRow op).build w).pattern = w &&& (opRow op).mask := by
    rw [← pattern_opRow_op, op_build, accepts_opRow_iff.mp h]
  rw [encode, hpattern, operandBits_build, ← BitVec.and_or_distrib_left,
    BitVec.or_not_self, BitVec.and_allOnes]

/-- R119: the words that are not illegal are those some row accepts. -/
theorem not_illegalWord_iff {w : Word} : ¬ illegalWord w ↔ ∃ op, (opRow op).accepts w = true := by
  simp only [illegalWord, not_or, not_le, not_not]
  constructor
  · rintro ⟨hop, hmatch⟩
    refine ⟨⟨_, hop⟩, accepts_opRow_iff.mpr ?_⟩
    rwa [mask_opRow, pattern_opRow]
  · rintro ⟨op, hacc⟩
    rw [op_of_accepts hacc, ← mask_opRow, ← pattern_opRow]
    exact ⟨op.isLt, accepts_opRow_iff.mp hacc⟩

theorem decode_ok_iff_not_illegalWord {w : Word} : (∃ i, decode w = .ok i) ↔ ¬ illegalWord w := by
  simp only [decode_eq_ok_iff, not_illegalWord_iff]
  exact ⟨fun ⟨_, op, hacc, _⟩ => ⟨op, hacc⟩, fun ⟨op, hacc⟩ => ⟨_, op, hacc, rfl⟩⟩

end Sys2Proof

namespace Sys2Proof.Machine

/-! ## The write of DATA (20_memory R81) -/

theorem dataWrite_served (w : Word) (s : State) : serve (dataWrite w) s = .next { s with data := w } := by
  rw [dataWrite, serve, checkAccess_of_aligned (by decide) (by decide), writeRegister]

/-! ## Selection (41_parameter_controller R186) -/

theorem selectSlot_val (i : Fin 14) (a : Int) : ((selectSlot i a).val : Int) = ((i.val : Int) + a) % 14 := by
  simp only [selectSlot, Fin.ofNat]
  omega

theorem selectSlot_selectSlot (i : Fin 14) (a b : Int) : selectSlot (selectSlot i a) b = selectSlot i (a + b) := by
  have hval : ((selectSlot (selectSlot i a) b).val : Int) = (selectSlot i (a + b)).val := by
    rw [selectSlot_val, selectSlot_val, selectSlot_val, Int.emod_add_emod, add_assoc]
  exact Fin.ext (Int.ofNat_inj.mp hval)

end Sys2Proof.Machine

namespace Sys2Proof

/-! ## The statements -/

open Sys2Proof.Machine

/-- Settles O1: the row of the command's OP accepts its word and reads its operands back. -/
theorem decodeEncodeRoundTrip : Obligations.DecodeEncodeRoundTrip := by
  intro i h
  exact decode_eq_ok_iff.mpr ⟨i.op, opRow_accepts_encode i, build_encode h⟩

/-- Settles O2: the word is the match and the operand bits of what its row builds (`encode_build`). -/
theorem decodeAcceptsOnlyEncodings : Obligations.DecodeAcceptsOnlyEncodings := by
  intro w i h
  obtain ⟨op, hacc, rfl⟩ := decode_eq_ok_iff.mp h
  exact ⟨wellFormed_build op w, encode_build hacc⟩

/-- Settles O3: a word is illegal exactly when no row accepts it (`decode_ok_iff_not_illegalWord`). -/
theorem illegalWordFaultsAndChangesNothingElse : Obligations.IllegalWordFaultsAndChangesNothingElse := by
  intro w s
  refine ⟨fun hill => ?_, decode_ok_iff_not_illegalWord.mpr⟩
  cases hd : decode w with
  | ok i => exact absurd hill (decode_ok_iff_not_illegalWord.mp ⟨i, hd⟩)
  | error e => exact ⟨⟨e, rfl⟩, command_illegal hd s⟩

/-- Settles O5: the write of DATA is served first, and the command word decodes by the round trip of O1. -/
theorem assembledUpdateRuns : Obligations.AssembledUpdateRuns := by
  intro s rest delta mute knob hlegal hbus
  refine ⟨_, (step_of_hostBus hbus).trans (dataWrite_served knob _), ?_⟩
  exact stepRunsTheDecodedCommand _ rest _ _ rfl (decodeEncodeRoundTrip (.updateControls delta mute) hlegal)

/-- Settles O25, by the slot's number (`selectSlot_val`). -/
theorem selectionWrapsModulo14 : Obligations.SelectionWrapsModulo14 :=
  ⟨selectSlot_val, selectSlot_selectSlot, by decide, by decide⟩

/-- Settles O4: the decoder run on each word. -/
theorem sampleWordsDecode : Obligations.SampleWordsDecode := by
  unfold Obligations.SampleWordsDecode
  decide

end Sys2Proof
end

section
/-! PROOFS. The system commands NOP, INIT and PROCESS (40_system R150 to R162): the statements O17 to O20, O33, O38 and
O42.

The ideas: each stage of the chain is a function of the sample and of its own state alone (`phaserOut`, `filterOut`),
so the chain is their composition (`channelChain_eq`). A frame as a whole is made of one function per channel
(`channelOut`) that reads the store, the rate and the LFO phases, and of the channels' state its own alone
(`frame_eq`). -/

namespace Sys2Proof.Machine

open Sys2Proof.F32

/-! ## INIT (R152, R153) -/

theorem not_lt_of_le {a b : Word} (h : le a b = true) : lt b a = false := by
  obtain ⟨-, -, hle⟩ := (le_iff_key a b).1 h
  simp [lt, hle]

/-- R153, with the words of 1.0 and +infinity. -/
theorem validRate_iff (fs : Word) :
    validRate fs = true ↔ le 0x3F800000#32 fs = true ∧ lt fs 0x7F800000#32 = true := by
  rw [validRate, lit_1, plusInf, Bool.and_eq_true]

theorem validRate_of_bad {fs : Word} (h : isNaN fs = true ∨ isInf fs = true ∨ lt fs 0x3F800000#32 = true) :
    validRate fs = false := by
  by_contra hv
  rw [Bool.not_eq_false] at hv
  have hfin := (isFinite_of_validRate hv).1
  rcases h with hnan | hinf | hlt
  · simp [isNaN_of_isFinite hfin] at hnan
  · simp [isInf_of_isFinite hfin] at hinf
  · simp [not_lt_of_le ((validRate_iff fs).1 hv).1] at hlt

theorem exec_init_of_validRate {s : State} (h : validRate s.data = true) :
    exec .init s = .next (initState implementation s.data s) := by
  simp [exec_next, effect, initFromData, h]

theorem exec_init_of_not_validRate {s : State} (h : validRate s.data = false) :
    exec .init s = .next { s with err := true } := by
  simp [exec_next, effect, initFromData, h, raiseFault]

theorem channel_initState (cfg : Params) (fs : Word) (s : State) (c : Chan) :
    channel (initState cfg fs s) c = freshChannel cfg c := by
  cases c <;> rfl

theorem bufRead_freshLine (len n : Nat) : bufRead (freshLine len).buf n = 0#32 := rfl

/-! ## What only INIT and PROCESS write (R154, R161) -/

/-- Besides the datapath (`datapath_effect`), every command but INIT and PROCESS leaves DAMP_A and the outputs. -/
theorem dampA_outputs_effect {i : Instr} (hi : i ≠ .init) (hp : i ≠ .process) (s : State) :
    (effect i s).dampA = s.dampA ∧ (effect i s).outL = s.outL ∧ (effect i s).outR = s.outR := by
  cases i with
  | init => exact absurd rfl hi
  | process => exact absurd rfl hp
  | updateControls delta mute =>
    rcases controlTick_cases implementation delta mute s with ⟨-, -, m, hc⟩ | ⟨p, l, r, m, hc⟩ <;>
      rw [effect, hc] <;> exact ⟨rfl, rfl, rfl⟩
  | randomize => simp [effect]
  | reset => simp [effect, resetController]
  | _ => exact ⟨rfl, rfl, rfl⟩

/-! ## The stages of the chain (R158) -/

/-- 44_effects_chain R290, with the word of 0.01. -/
theorem bypassed_eq (amount : Word) : bypassed amount = lt amount 0x3C23D70A#32 := by
  rw [bypassed, lit_0_01]

/-- R295, R291: the phaser's sample and next state, of its own state alone. -/
def phaserOut (cfg : Params) (fs : Word) (S : Snapshot) (c : Chan) (x : Word) (st : List Word) : Word × List Word :=
  if bypassed S.phaser then (x, st) else cfg.phaserStep fs st x S.phaser (phaserRate c S.phaser)

theorem phaser_eq (cfg : Params) (fs : Word) (S : Snapshot) (c : Chan) (x : Word) (ch : ChannelState) :
    phaser cfg fs S c x ch =
      ((phaserOut cfg fs S c x ch.phs).1, { ch with phs := (phaserOut cfg fs S c x ch.phs).2 }) := by
  by_cases hb : bypassed S.phaser = true <;> simp [phaser, phaserOut, hb]

/-- R300, R291: the filter's sample and next state, of its own state alone. -/
def filterOut (cfg : Params) (fs : Word) (S : Snapshot) (x : Word) (st : List Word) : Word × List Word :=
  match filterBranch S.filter with
  | some (fc, mode) => cfg.svfStep fs st x fc resonance mode
  | none => (x, st)

theorem filterStage_eq (cfg : Params) (fs : Word) (S : Snapshot) (x : Word) (ch : ChannelState) :
    filterStage cfg fs S x ch =
      ((filterOut cfg fs S x ch.svf).1, { ch with svf := (filterOut cfg fs S x ch.svf).2 }) := by
  unfold filterStage filterOut
  cases filterBranch S.filter <;> rfl

/-- R300, R303: the filter's branches, with the words of 0.45, 0.55 and 0.1. -/
theorem filterOut_eq_ite (cfg : Params) (fs : Word) (S : Snapshot) (x : Word) (st : List Word) :
    filterOut cfg fs S x st =
      if lt S.filter 0x3EE66666#32 = true then cfg.svfStep fs st x (lowPassCutoff S.filter) 0x3DCCCCCD#32 .lp
      else if lt 0x3F0CCCCD#32 S.filter = true then
        cfg.svfStep fs st x (highPassCutoff S.filter) 0x3DCCCCCD#32 .hp
      else (x, st) := by
  rw [filterOut, filterBranch, resonance, gt, lit_0_45, lit_0_55, lit_0_1]
  split_ifs <;> rfl

/-- R158: the chain is drive, phaser, filter and damping in that order, and its state is what each leaves. -/
theorem channelChain_eq (cfg : Params) (fs dampA : Word) (S : Snapshot) (c : Chan) (v : Word) (ch : ChannelState) :
    channelChain cfg fs dampA S c v ch =
      let p := phaserOut cfg fs S c (drive cfg S v) ch.phs
      let q := filterOut cfg fs S p.1 ch.svf
      let y := add ch.dmp (mul dampA (sub q.1 ch.dmp))
      (y, { ch with phs := p.2, svf := q.2, dmp := y }) := by
  simp only [channelChain, phaser_eq, filterStage_eq, damp]

/-! ## A frame, channel by channel (R155, R159) -/

/-- The frequency of a channel's two oscillators (43_modulation R270). -/
def channelFreq (m : Pitch) (c : Chan) : Word :=
  match c with
  | .left => m.fLeft
  | .right => m.fRight

/-- A channel's voice and chain in a frame from `s`, with the channel in the state `ch`. -/
def channelDry (cfg : Params) (s : State) (c : Chan) (ch : ChannelState) : Word × ChannelState :=
  let S := snapshot s.params
  channelFrame cfg s.fs s.dampA S c (channelFreq (modulate cfg s.fs S s.phWob s.phSwp) c) ch

/-- A channel's sample after the reverb and its next state in a frame from `s`, with the channel in the state `ch`. -/
def channelOut (cfg : Params) (s : State) (c : Chan) (ch : ChannelState) : Word × ChannelState :=
  let S := snapshot s.params
  let u := channelDry cfg s c ch
  if bypassed S.rvAmt then u else reverbChannel cfg S (modOffset cfg S s.phRev) c u.1 u.2

/-- R355: the one LFO of the reverb advances if the reverb is on, whatever the channels hold. -/
def nextPhRev (s : State) : Word :=
  if bypassed (snapshot s.params).rvAmt then s.phRev else advancePhase s.fs reverbRate s.phRev

/-- R159: a frame is made of the two channels apart, the reverb included: they share its LFO alone. -/
theorem frame_eq (cfg : Params) (s : State) :
    frame cfg s =
      let S := snapshot s.params
      let m := modulate cfg s.fs S s.phWob s.phSwp
      let l := channelOut cfg s .left s.left
      let r := channelOut cfg s .right s.right
      writeFrame { outL := limit (gain S l.1), outR := limit (gain S r.1), phWob := m.phWob, phSwp := m.phSwp,
                   phRev := nextPhRev s, left := l.2, right := r.2 } s := by
  unfold frame frameResult reverb channelOut nextPhRev
  by_cases hb : bypassed (snapshot s.params).rvAmt = true
  · simp only [if_pos hb]
    rfl
  · simp only [if_neg hb]
    rfl

/-- 45_reverb R355: after a frame, the state of a channel's chain is what the chain left of it. -/
theorem frame_keeps_chain (cfg : Params) (s : State) (c : Chan) :
    let d := (channelDry cfg s c (channel s c)).2
    (channel (frame cfg s) c).phs = d.phs ∧ (channel (frame cfg s) c).svf = d.svf ∧
      (channel (frame cfg s) c).dmp = d.dmp := by
  obtain ⟨hlphs, hlsvf, hldmp, hrphs, hrsvf, hrdmp⟩ :=
    reverb_keeps_chain cfg s.fs (snapshot s.params) (channelDry cfg s .left s.left).1
      (channelDry cfg s .right s.right).1 s.phRev (channelDry cfg s .left s.left).2 (channelDry cfg s .right s.right).2
  cases c
  · exact ⟨hlphs, hlsvf, hldmp⟩
  · exact ⟨hrphs, hrsvf, hrdmp⟩

/-- R159: in the state a frame starts from, `channelOut` reads no channel. -/
theorem channelOut_channels (cfg : Params) (s : State) (l r : ChannelState) (c : Chan) (ch : ChannelState) :
    channelOut cfg { s with left := l, right := r } c ch = channelOut cfg s c ch := rfl

/-- R155, R156, R403: PROCESS faults before INIT, and answers the silent frame or the frame after it. -/
theorem exec_process (s : State) :
    exec .process s = .next (if s.initDone then (if s.muted then mutedFrame s else frame implementation s)
      else raiseFault .notInitialized s) := rfl

theorem eq_of_exec_process {s t : State} (h : exec .process s = .next t) :
    t = if s.initDone then (if s.muted then mutedFrame s else frame implementation s)
      else raiseFault .notInitialized s :=
  (Host.Outcome.next.inj ((exec_process s).symm.trans h)).symm

end Sys2Proof.Machine

namespace Sys2Proof

/-! ## The statements -/

open Sys2Proof.Machine Sys2Proof.F32

/-- Settles O17: the valid rates are those of `validRate_iff`, and every element is read off `initState` and
`freshChannel`. -/
theorem initSetsEveryElement : Obligations.InitSetsEveryElement := by
  refine ⟨fun s hbad => ?_, fun s hle hlt => ?_⟩
  · rw [← validRate_iff, Bool.not_eq_true] at hbad
    exact exec_init_of_not_validRate hbad
  · refine ⟨_, exec_init_of_validRate ((validRate_iff _).2 ⟨hle, hlt⟩), rfl, rfl, fun i => ?_, rfl, rfl, rfl, rfl, rfl,
      rfl, rfl, rfl, rfl, rfl, fun c => ?_, rfl, rfl, rfl, rfl, rfl, rfl⟩
    · simp
    · rw [channel_initState]
      refine ⟨rfl, rfl, rfl, rfl, rfl, fun i => ?_, fun j => ?_⟩
      · rw [freshChannel_cds, freshChannel_comb]
        exact ⟨rfl, rfl, rfl, bufRead_freshLine _⟩
      · rw [freshChannel_ap]
        exact ⟨rfl, rfl, bufRead_freshLine _⟩

/-- Settles O18: none of these rates is valid (`validRate_of_bad`). -/
theorem initFaultsOnBadRate : Obligations.InitFaultsOnBadRate := by
  intro s hbad
  exact exec_init_of_not_validRate (validRate_of_bad hbad)

/-- Settles O19: a fault sets `err` alone, PROCESS writes what a frame writes, and the other commands leave both the
datapath (`datapath_effect`) and DAMP_A and the outputs (`dampA_outputs_effect`). -/
theorem onlyInitChangesRateAndOnlyProcessTheDatapath : Obligations.OnlyInitChangesRateAndOnlyProcessTheDatapath := by
  intro i s t ht hi
  rw [exec_next] at ht
  cases ht
  split
  case isFalse => exact ⟨rfl, rfl, rfl, fun _ => ⟨rfl, rfl, rfl, rfl, rfl, rfl, rfl⟩⟩
  case isTrue =>
    by_cases hp : i = .process
    · subst hp
      rcases processFrame_cases implementation s with hf | hf <;> simp [effect, hf]
    · have hd := datapath_effect hi hp s
      simp only [datapath, Prod.mk.injEq] at hd
      obtain ⟨hinit, hfs, hwob, hswp, hrev, hl, hr⟩ := hd
      obtain ⟨hdamp, houtL, houtR⟩ := dampA_outputs_effect hi hp s
      exact ⟨hfs, hdamp, hinit, fun _ => ⟨hl, hr, hwob, hswp, hrev, houtL, houtR⟩⟩

/-- Settles O20: the word of NOP is 0 (O1, O2), and the row of OP 0 builds nothing but NOP. -/
theorem nopLeavesTheState : Obligations.NopLeavesTheState := by
  have hnop (w : Word) : decode w = .ok .nop ↔ w = 0#32 := by
    constructor
    · exact fun h => (decodeAcceptsOnlyEncodings w .nop h).2.symm
    · rintro rfl
      exact decodeEncodeRoundTrip .nop rfl
  refine ⟨fun s => rfl, hnop, fun w hop hw => ?_⟩
  cases hd : decode w with
  | error e => exact ⟨e, rfl⟩
  | ok i =>
    obtain ⟨op, hacc, rfl⟩ := decode_eq_ok_iff.mp hd
    obtain rfl : op = 0 := Fin.ext ((op_of_accepts hacc).symm.trans hop)
    exact absurd ((hnop w).mp hd) hw

/-- Settles O33: the mute gate stands before every stage of the frame (`exec_process`). -/
theorem mutedFrameIsSilentAndFrozen : Obligations.MutedFrameIsSilentAndFrozen := by
  intro s hs hm
  rw [exec_process, if_pos hs, if_pos hm, mutedFrame, plusZero]

/-- Settles O38: the frame keeps what the chain left (`frame_keeps_chain`), and the chain is its stages in order, each
on its own state (`channelChain_eq`). -/
theorem chainStagesActInOrder : Obligations.ChainStagesActInOrder := by
  intro s hs hm
  refine ⟨_, execProcess_unmuted hs hm, fun c => ?_⟩
  obtain ⟨hphs, hsvf, hdmp⟩ := frame_keeps_chain implementation s c
  rw [hphs, hsvf, hdmp, channelDry, channelFrame, channelChain_eq]
  simp only [filterOut_eq_ite, phaserOut, drive, bypassed_eq, voice_channel]
  cases c <;> exact ⟨rfl, rfl, rfl⟩

/-- Settles O42: before INIT and while muted PROCESS leaves the channels and the LFOs, and a frame is made of the two
channels apart (`frame_eq`), neither reading the other (`channelOut_channels`). -/
theorem channelsAreIndependent : Obligations.ChannelsAreIndependent := by
  intro s t t' ch ht
  obtain rfl := eq_of_exec_process ht
  refine ⟨fun ht' => ?_, fun ht' => ?_⟩
  · obtain rfl := eq_of_exec_process ht'
    simp only [frame_eq, channelOut_channels]
    split_ifs <;> simp [nextPhRev]
  · obtain rfl := eq_of_exec_process ht'
    simp only [frame_eq, channelOut_channels]
    split_ifs <;> simp [nextPhRev]

end Sys2Proof
end

section
/-! PROOFS. The Parameter Controller (41_parameter_controller R180 to R205): the statements O21 to O24, O26 and O28 to
O32.

The ideas: a control tick is its knob tick after the two events (`controlTick_eq`), so every tick follows from one
equation for each state of the lock (`knobTick_of_locked`, `knobTick_of_unlocked`). A tick with a selection compares the
clamped knob with itself: the difference of a finite word and itself is a zero (`fabs_sub_self`), so it does not
unlock. -/

namespace Sys2Proof.Machine

open Sys2Proof.F32

/-! ## Words of equal value -/

theorem eq_of_key_eq {a b : Word} (hk : key a = key b) (hs : sign a = sign b) : a = b := by
  rw [← pack_sign_magBits a, ← pack_sign_magBits b, ← natAbs_key, ← natAbs_key, hk, hs]

theorem eq_negZero_iff (x : Word) : x = 0x80000000#32 ↔ key x = 0 ∧ sign x = true := by
  constructor
  · rintro rfl
    decide
  · rintro ⟨hk, hs⟩
    exact eq_of_key_eq hk hs

/-- R13: a finite word less itself is a zero. -/
theorem fabs_sub_self {x : Word} (h : isFinite x = true) : fabs (sub x x) = 0x00000000#32 := by
  have hsum : sum? x (neg x) = some (pack false 0) := by
    simp [sum?, isNaN_of_isFinite h, isInf_of_isFinite h]
  rw [sub_of_sum? hsum]
  decide

/-! ## The two ends of the entry clamp (R15, R185) -/

theorem max_plusZero (x : Word) :
    F32.max x plusZero = if isNaN x = true ∨ lt x 0#32 = true ∨ x = 0x80000000#32 then 0#32 else x := by
  obtain ⟨hzeroNaN, hzeroKey⟩ : isNaN plusZero = false ∧ key plusZero = 0 := by decide
  simp only [eq_negZero_iff]
  rw [← plusZero]
  cases hnan : isNaN x with
  | true => simp [F32.max, hnan, hzeroNaN]
  | false =>
    simp only [F32.max, lt, hnan, hzeroNaN, hzeroKey]
    rcases lt_trichotomy (key x) 0 with hneg | hz | hpos
    · simp [hneg]
    · simp [hz]
    · simp [hpos, hpos.not_gt, hpos.ne']

theorem min_one {x : Word} (hnan : isNaN x = false) :
    F32.min x (lit 1 1) = if lt 0x3F800000#32 x = true then 0x3F800000#32 else x := by
  obtain ⟨honeNaN, honeKey⟩ : isNaN 0x3F800000#32 = false ∧ key 0x3F800000#32 = 0x3F800000 := by decide
  simp only [lit_1, F32.min, lt, hnan, honeNaN, honeKey]
  rcases lt_trichotomy (key x) 0x3F800000 with hlt | heq | hgt
  · simp [hlt, hlt.not_gt]
  · have hsign : sign x = false := by
      by_contra hs
      rw [key, if_pos (by simpa using hs)] at heq
      omega
    obtain rfl : x = 0x3F800000#32 := eq_of_key_eq (heq.trans honeKey.symm) hsign
    simp
  · simp [hgt, hgt.not_gt]

/-! ## The knob (R185) -/

theorem inRange_knobIn (k : Word) : inRange plusZero (lit 1 1) (knobIn k) := clamp_inRange k (by decide)

theorem isFinite_knobIn (k : Word) : isFinite (knobIn k) = true :=
  ((inRange_plusZero_iff (by decide)).1 (inRange_knobIn k)).1

theorem knobIn_eq_ite (k : Word) :
    knobIn k = if isNaN k = true ∨ lt k 0#32 = true ∨ k = 0x80000000#32 then 0#32
      else if lt 0x3F800000#32 k = true then 0x3F800000#32 else k := by
  rw [knobIn, clamp, max_plusZero]
  split
  case isTrue => decide
  case isFalse h => exact min_one (by simpa using fun hnan => h (.inl hnan))

/-! ## The knob tick (R189, R190) -/

theorem knobTick_of_locked (cfg : Params) (k : Word) {s : State} (h : s.locked = true) :
    knobTick cfg k s = { s with locked := !gt (fabs (sub k s.lockReference)) 0x3E19999A#32 } := by
  rw [knobTick, if_pos h, lockThreshold, lit_0_15]
  split
  case isTrue hgt => rw [hgt]; rfl
  case isFalse hgt => simp [hgt, ← h]

theorem knobTick_of_unlocked (cfg : Params) (k : Word) {s : State} (h : s.locked = false) :
    knobTick cfg k s = writeSlot cfg k s := by
  simp [knobTick, h]

/-- R187: a locked knob tick at its own reference leaves the state. -/
theorem knobTick_at_reference (cfg : Params) {s : State} (h : s.locked = true)
    (hfin : isFinite s.lockReference = true) :
    knobTick cfg s.lockReference s = s := by
  rw [knobTick_of_locked cfg _ h, fabs_sub_self hfin, show gt 0x00000000#32 0x3E19999A#32 = false by decide]
  simp [← h]

/-- R187: the tick with a selection, whose knob tick finds the lock at the knob itself. -/
theorem controlTick_of_selection (cfg : Params) {delta : Int} (hd : delta ≠ 0) (mute : Bool) (s : State) :
    controlTick cfg delta mute s =
      { s with currentParam := selectSlot s.currentParam delta, locked := true, lockReference := knobIn s.data,
               muted := s.muted ^^ mute } := by
  rw [controlTick_eq, if_neg hd]
  exact knobTick_at_reference cfg rfl (isFinite_knobIn s.data)

/-- R189: without a selection a tick under the lock is the mute event and what the knob does to the lock. -/
theorem controlTick_of_locked (cfg : Params) (mute : Bool) {s : State} (h : s.locked = true) :
    controlTick cfg 0 mute s =
      { s with locked := !gt (fabs (sub (knobIn s.data) s.lockReference)) 0x3E19999A#32,
               muted := s.muted ^^ mute } := by
  rw [controlTick_eq, if_pos rfl]
  exact knobTick_of_locked cfg (knobIn s.data) (s := { s with muted := s.muted ^^ mute }) h

/-- R190: without a selection a tick with the lock open is the mute event and the write of the selected slot. -/
theorem controlTick_of_unlocked (cfg : Params) (mute : Bool) {s : State} (h : s.locked = false) :
    controlTick cfg 0 mute s = writeSlot cfg (knobIn s.data) { s with muted := s.muted ^^ mute } := by
  rw [controlTick_eq, if_pos rfl]
  exact knobTick_of_unlocked cfg (knobIn s.data) (s := { s with muted := s.muted ^^ mute }) h

theorem exec_updateControls {s : State} (h : s.initDone = true) (delta : Int) (mute : Bool) :
    exec (.updateControls delta mute) s = .next (controlTick implementation delta mute s) :=
  whenInitialized_ready h

/-! ## Runs of ticks (R191) -/

theorem runTicks_cons_of_locked (k : Word) (ks : List Word) {s : State} (hs : s.initDone = true)
    (hl : s.locked = true) :
    runTicks (k :: ks) s = runTicks ks { s with
      data := k, locked := !gt (fabs (sub (knobIn k) s.lockReference)) 0x3E19999A#32 } := by
  rw [runTicks, exec_updateControls (s := { s with data := k }) hs,
    controlTick_of_locked _ _ (s := { s with data := k }) hl]
  simp

theorem runTicks_cons_of_unlocked (k : Word) (ks : List Word) {s : State} (hs : s.initDone = true)
    (hl : s.locked = false) :
    runTicks (k :: ks) s = runTicks ks (writeSlot implementation (knobIn k) { s with data := k }) := by
  rw [runTicks, exec_updateControls (s := { s with data := k }) hs,
    controlTick_of_unlocked _ _ (s := { s with data := k }) hl]
  simp

/-- R191: a run of ticks within the threshold leaves the last knob word in DATA and changes nothing else. -/
theorem runTicks_within {s : State} (hs : s.initDone = true) (hl : s.locked = true) {ks : List Word}
    (h : ∀ k ∈ ks, gt (fabs (sub (knobIn k) s.lockReference)) 0x3E19999A#32 = false) :
    ∃ d, runTicks ks s = .next { s with data := d } := by
  induction ks generalizing s with
  | nil => exact ⟨s.data, rfl⟩
  | cons k ks ih =>
    rw [List.forall_mem_cons] at h
    rw [runTicks_cons_of_locked k ks hs hl, h.1, Bool.not_false, ← hl]
    exact ih (s := { s with data := k }) hs hl h.2

/-! ## The randomize sub-ranges (R183) -/

theorem randomRange_eq (i : Fin 14) : randomRange i = (randomMin[i], randomMax[i]) := by
  revert i
  decide

theorem inRange_drawSlot (n : Nat) (i : Fin 14) : inRange (randomRange i).1 (randomRange i).2 (drawSlot n i) := by
  have hends : ∀ i : Fin 14, le (randomRange i).1 (randomRange i).2 = true ∧
      le (randomRange i).1 (randomRange i).1 = true := by decide
  obtain ⟨hle, hrefl⟩ := hends i
  rw [randomRange_eq] at hle hrefl ⊢
  exact within_range (Config.draw (n + i.val)) hle hrefl

/-! ## The getters (R203, R204) -/

theorem slotOf_val (i : Fin 14) : slotOf i.val = some i := by simp [slotOf]

theorem slotOf_of_le {index : Nat} (h : 14 ≤ index) : slotOf index = none := by simp [slotOf, h]

theorem paramValue_val (cfg : Params) (i : Fin 14) (s : State) :
    paramValue cfg i.val s = inverse cfg i s.params[i] := by
  rw [paramValue, slotOf_val]

theorem paramValue_of_le (cfg : Params) {index : Nat} (h : 14 ≤ index) (s : State) :
    paramValue cfg index s = 0x00000000#32 := by
  rw [paramValue, slotOf_of_le h, plusZero]

/-- R112: an index that fits IDX, in its place in the word. -/
theorem setWidth_ofNat_shiftLeft {index : Nat} (h : index < 256) :
    (BitVec.ofNat 8 index).setWidth 32 <<< 16 = BitVec.ofNat 32 (index * 65536) := by
  apply BitVec.eq_of_toNat_eq
  simp only [BitVec.toNat_shiftLeft, BitVec.toNat_setWidth, BitVec.toNat_ofNat, Nat.shiftLeft_eq]
  omega

end Sys2Proof.Machine

namespace Sys2Proof

/-! ## The statements -/

open Sys2Proof.Machine Sys2Proof.F32

/-- Settles O21: the selection locks at the clamped knob, so the knob tick changes nothing
(`controlTick_of_selection`). -/
theorem selectionTickLocksAndWritesNoSlot : Obligations.SelectionTickLocksAndWritesNoSlot := by
  intro s delta mute hs hd
  refine ⟨_, selectSlot_val s.currentParam delta, ?_⟩
  rw [exec_updateControls hs, controlTick_of_selection _ hd]

/-- Settles O22: after INIT the command is its tick, under the lock `controlTick_of_locked`. -/
theorem lockedTickOnlyMayUnlock : Obligations.LockedTickOnlyMayUnlock := by
  intro s mute hs hl
  rw [exec_updateControls hs, controlTick_of_locked _ _ hl]

/-- Settles O23: with the lock open the tick is a write of the selected slot (`controlTick_of_unlocked`). -/
theorem unlockedTickWritesSelectedSlot : Obligations.UnlockedTickWritesSelectedSlot := by
  intro s mute hs hl
  refine ⟨s.params.set s.currentParam.val (forward implementation s.currentParam (knobIn s.data)), ?_, ?_, ?_⟩
  · exact Vector.getElem_set_self _
  · exact fun j hj => Vector.getElem_set_ne _ _ (fun h => hj (Fin.ext h.symm))
  · rw [exec_updateControls hs, controlTick_of_unlocked _ _ hl]
    rfl

/-- Settles O24, by the two ends of the clamp (`max_plusZero`, `min_one`). -/
theorem knobEntryClamp : Obligations.KnobEntryClamp := by
  intro k
  refine ⟨knobIn_eq_ite k, ?_⟩
  simpa only [plusZero, lit_1] using inRange_knobIn k

/-- Settles O26: under the lock by induction on the ticks (`runTicks_within`), beyond the threshold by one tick that
unlocks and one that writes. -/
theorem lockHoldsUntilKnobMoves : Obligations.LockHoldsUntilKnobMoves := by
  refine ⟨fun ks s hs hl h => ?_, fun k k' s hs hl hgt => ?_⟩
  · obtain ⟨d, hrun⟩ := runTicks_within hs hl h
    exact ⟨_, hrun, hl, rfl, rfl, rfl⟩
  · rw [runTicks_cons_of_locked k _ hs hl, runTicks_cons_of_locked k _ hs hl, hgt, Bool.not_true]
    refine ⟨rfl, _, runTicks_cons_of_unlocked k' [] hs rfl, ?_⟩
    exact Vector.getElem_set_self _

/-- Settles O28: every draw is in its sub-range (`inRange_drawSlot`). -/
theorem randomizeStaysInSubRanges : Obligations.RandomizeStaysInSubRanges := by
  intro s hs
  refine ⟨Vector.ofFn (drawSlot s.drawCount), fun i => ?_, whenInitialized_ready hs⟩
  simpa using inRange_drawSlot s.drawCount i

/-- Settles O29: RESET stores the vector of the defaults, and its word is decoded by the round trip of O1. -/
theorem resetRestoresDefaultsOnly : Obligations.ResetRestoresDefaultsOnly := by
  refine ⟨decodeEncodeRoundTrip .reset rfl, fun s hs => ?_⟩
  exact ⟨Vector.ofFn implementation.paramDefault, fun i => by simp, whenInitialized_ready hs⟩

/-- Settles O30: the three answers written out, the index a slot's number below 14. -/
theorem flagAndIndexGetters : Obligations.FlagAndIndexGetters := by
  refine ⟨decodeEncodeRoundTrip .isMuted rfl, decodeEncodeRoundTrip .getCurrentParamIndex rfl,
    decodeEncodeRoundTrip .isParamLocked rfl, fun s hs => ?_⟩
  have hindex : (BitVec.ofNat 32 s.currentParam.val).toNat = s.currentParam.val := by
    rw [BitVec.toNat_ofNat]
    omega
  exact ⟨whenInitialized_ready hs, whenInitialized_ready hs, _, hindex, by omega, whenInitialized_ready hs⟩

/-- Settles O31: the word is the command's own (`setWidth_ofNat_shiftLeft`), and the answer is the name code. -/
theorem nameGetterAnswersCodeOrSentinel : Obligations.NameGetterAnswersCodeOrSentinel := by
  refine ⟨fun index hi => ?_, fun s index hs => whenInitialized_ready hs⟩
  rw [← setWidth_ofNat_shiftLeft hi]
  exact decodeEncodeRoundTrip (.getParamName index) (decide_eq_true (Nat.le_of_lt_succ hi))

/-- Settles O32: the value of a slot is its inverse mapping (`paramValue_val`), which is the identity but for slot 0. -/
theorem valueGetterAnswersNormalizedValue : Obligations.ValueGetterAnswersNormalizedValue := by
  refine ⟨fun index hi => ?_, fun s hs => ⟨whenInitialized_ready hs, fun i hi => ?_, fun index hi => ?_⟩⟩
  · rw [← setWidth_ofNat_shiftLeft hi]
    exact decodeEncodeRoundTrip (.getParamValue index) (decide_eq_true (Nat.le_of_lt_succ hi))
  · refine (whenInitialized_ready hs).trans ?_
    rw [paramValue_val, inverse, if_neg hi, answer]
  · refine (whenInitialized_ready hs).trans ?_
    rw [paramValue_of_le _ hi, answer]

end Sys2Proof
end

section
/-! PROOFS. The Waveform Bank and the Voice Generator (42_voice_generator R230 to R245): the statements O35 and O45 to
O48.

The ideas: every intermediate value of a waveform is bounded before its rounding, and rounding does not leave a range
(`inRange_of_roundsTo`). Of a value with the plus sign, `floor` is the word of its integral part (`floor_eq_toF`), so
the blend position is a `frac` and with that a phase. At blend position 0 the blend adds a zero to the first sample,
and neither operation rounds. A frame's phases are those the voice leaves, because no later stage writes them
(`channelOut_phases`). -/

namespace Sys2Proof.Machine

open Sys2Proof.F32

/-! ## Words of equal value -/

theorem eq_of_scaled_eq {a b : Word} (h : scaled a = scaled b) (hs : sign a = sign b) : a = b :=
  eq_of_key_eq (le_antisymm ((key_le_iff a b).2 h.le) ((key_le_iff b a).2 h.ge)) hs

theorem eq_of_scaled_eq_of_ne_zero {a b : Word} (h : scaled a = scaled b) (hb : scaled b ≠ 0) : a = b :=
  eq_of_scaled_eq h (by rw [sign_eq_decide hb, sign_eq_decide (h ▸ hb), h])

/-- Of the two words of value 0, the one with the plus sign. -/
theorem eq_plusZero {x : Word} (h : scaled x = 0) (hs : sign x = false) : x = plusZero :=
  eq_of_scaled_eq (h.trans scaled_plusZero.symm) hs

theorem scaled_ne_zero_or_eq_plusZero {x : Word} (h : x ≠ 0x80000000#32) : scaled x ≠ 0 ∨ x = plusZero := by
  refine or_iff_not_imp_left.2 fun hx => eq_plusZero (not_not.1 hx) (Bool.eq_false_iff.2 fun hs => h ?_)
  exact eq_of_scaled_eq ((not_not.1 hx).trans (by decide)) hs

/-! ## The blend at position 0 (R237, R238) -/

/-- R13: a product with 1.0 is the other operand. -/
theorem mul_lit_one {a : Word} (ha : isFinite a = true) : mul a (lit 1 1) = a := by
  have hone : isFinite (lit 1 1) = true := by decide
  have hround := roundsTo_mul ha hone
  rw [scaled_one] at hround
  obtain ⟨-, hle, hge⟩ := (inRange_iff ha ha).1 (inRange_of_roundsTo hround unit_pos ha ha le_rfl le_rfl)
  refine eq_of_scaled_eq (le_antisymm hge hle) ?_
  rw [F32.sign_mul ha hone, show sign (lit 1 1) = false by decide, Bool.bne_false]

/-- R13: a product with +0.0 is a zero. -/
theorem mul_plusZero {b : Word} (hb : isFinite b = true) :
    isFinite (mul b plusZero) = true ∧ scaled (mul b plusZero) = 0 := by
  have hround := roundsTo_mul hb (show isFinite plusZero = true by decide)
  have hzero : inRange plusZero plusZero (mul b plusZero) :=
    inRange_plusZero_of_roundsTo hround unit_pos (by decide) (by simp [scaled_plusZero]) (by simp [scaled_plusZero])
  obtain ⟨hfin, hle, hge⟩ := (inRange_plusZero_iff (by decide)).1 hzero
  exact ⟨hfin, le_antisymm (hge.trans_eq scaled_plusZero) hle⟩

/-- R13: a zero added to a value that is not -0.0 leaves it. -/
theorem add_of_scaled_eq_zero {a z : Word} (ha : isFinite a = true) (hz : isFinite z = true) (hz0 : scaled z = 0)
    (hne : a ≠ 0x80000000#32) : add a z = a := by
  obtain ⟨hround, hzero⟩ := add_of_isFinite ha hz
  rw [hz0, add_zero] at hround hzero
  rcases scaled_ne_zero_or_eq_plusZero hne with ha0 | rfl
  · exact eq_of_scaled_eq_of_ne_zero (roundsTo_exact hround ha rfl).2 ha0
  · exact hzero scaled_plusZero

theorem morphBlend_plusZero {a b : Word} (ha : isFinite a = true) (hb : isFinite b = true) (hne : a ≠ 0x80000000#32) :
    morphBlend a b plusZero = a := by
  obtain ⟨hfin, hzero⟩ := mul_plusZero hb
  rw [morphBlend, show sub (lit 1 1) plusZero = lit 1 1 by decide, mul_lit_one ha]
  exact add_of_scaled_eq_zero ha hfin hzero hne

/-! ## Integral parts (R15, R17) -/

/-- R15: of a value with the plus sign, `floor` is the word of the integral part, +0.0 of +0.0 included. -/
theorem floor_eq_toF {x : Word} (hx : isFinite x = true) (hs : sign x = false) :
    floor x = toF (scaled x / (unit : Int)) := by
  by_cases hz : scaled x = 0
  · rw [eq_plusZero hz hs]
    decide
  · have hnz : isZero x = false := by rwa [← Bool.not_eq_true, isZero_iff_scaled]
    simp [floor, isNaN_of_isFinite hx, isInf_of_isFinite hx, hnz]

/-- R17: the integral part as an integer, where it is an int32. -/
theorem toInt_floor {x : Word} (hx : isFinite x = true) (hlo : -2 ^ 31 ≤ scaled x / (unit : Int))
    (hhi : scaled x / (unit : Int) < 2 ^ 31) : toInt (floor x) = scaled x / (unit : Int) := by
  obtain ⟨hfin, hscaled⟩ := floor_of_isFinite hx
  have hdiv : scaled (floor x) / (unit : Int) = scaled x / (unit : Int) := by
    rw [hscaled, Int.mul_ediv_cancel _ unit_pos.ne']
  simp only [toInt, hdiv, hscaled.symm, hfin, hlo, hhi, decide_true, Bool.and_self, if_true]

/-! ## The morph indexes (R236) -/

theorem inRange_of_toNat_le_one {w : Word} (h : w.toNat ≤ 0x3F800000) : inRange plusZero (lit 1 1) w := by
  rcases Nat.lt_or_eq_of_le h with hlt | heq
  · exact inRange_of_phaseOk hlt
  · obtain rfl : w = 0x3F800000#32 := BitVec.eq_of_toNat_eq heq
    decide

/-- R236: the waveform position `w * 3` of a waveform value in [0, 1]. -/
theorem mul_three_bounds {w : Word} (h : w.toNat ≤ 0x3F800000) :
    isFinite (mul w (lit 3 1)) = true ∧ sign (mul w (lit 3 1)) = false ∧
      0 ≤ scaled (mul w (lit 3 1)) ∧ scaled (mul w (lit 3 1)) ≤ 3 * (unit : Int) := by
  have hthree : isFinite (lit 3 1) = true := by decide
  have hvalue : scaled (lit 3 1) = 3 * (unit : Int) := by decide
  obtain ⟨hfin, hlo, hhi⟩ := (inRange_plusZero_iff (by decide)).1 (inRange_of_toNat_le_one h)
  have hsign : sign w = false := by
    rw [sign, decide_eq_false_iff_not]
    omega
  have hrange : inRange plusZero (lit 3 1) (mul w (lit 3 1)) := by
    refine inRange_plusZero_of_roundsTo (roundsTo_mul hfin hthree) unit_pos hthree ?_ ?_ <;> rw [hvalue]
    · exact mul_nonneg hlo (mul_nonneg (by norm_num) unit_pos.le)
    · calc scaled w * (3 * (unit : Int)) ≤ (unit : Int) * (3 * (unit : Int)) :=
            mul_le_mul_of_nonneg_right (scaled_one ▸ hhi) (mul_nonneg (by norm_num) unit_pos.le)
        _ = 3 * (unit : Int) * (unit : Int) := mul_comm _ _
  obtain ⟨hfin', hlo', hhi'⟩ := (inRange_plusZero_iff hthree).1 hrange
  refine ⟨hfin', ?_, hlo', hvalue ▸ hhi'⟩
  rw [F32.sign_mul hfin hthree, hsign]
  decide

theorem morphIndex_ia_le (w : Word) : (morphIndex w).ia ≤ 3 := by
  simp only [morphIndex]
  omega

theorem morphIndex_ib (w : Word) : (morphIndex w).ib = if (morphIndex w).ia = 3 then 3 else (morphIndex w).ia + 1 := by
  have hle := morphIndex_ia_le w
  have hib : (morphIndex w).ib = Min.min ((morphIndex w).ia + 1) 3 := rfl
  rw [hib]
  split <;> omega

theorem morphIndex_fr (w : Word) :
    (morphIndex w).fr = if (morphIndex w).ia = 3 then plusZero else sub (mul w (lit 3 1)) (toF (morphIndex w).ia) := by
  rw [morphIndex]

theorem morphIndex_ia {w : Word} (h : w.toNat ≤ 0x3F800000) :
    ((morphIndex w).ia : Int) = scaled (mul w (lit 3 1)) / (unit : Int) := by
  obtain ⟨hfin, -, hlo, hhi⟩ := mul_three_bounds h
  have hnonneg := Int.ediv_nonneg hlo unit_pos.le
  have hle : scaled (mul w (lit 3 1)) / (unit : Int) ≤ 3 :=
    (Int.ediv_le_ediv unit_pos hhi).trans_eq (Int.mul_ediv_cancel _ unit_pos.ne')
  simp only [morphIndex]
  rw [toInt_floor hfin (by omega) (by omega)]
  omega

/-- R236: below index 3 the blend position is the fractional part of `w * 3`. -/
theorem phaseOk_morphIndex_fr {w : Word} (h : w.toNat ≤ 0x3F800000) : phaseOk (morphIndex w).fr := by
  rw [morphIndex_fr]
  split
  · exact phaseOk_plusZero
  · obtain ⟨hfin, hsign, -, -⟩ := mul_three_bounds h
    rw [morphIndex_ia h, ← floor_eq_toF hfin hsign]
    exact phaseOk_frac hfin hsign

/-! ## Exact values: naturals, differences, absolute values -/

theorem roundsTo_round149_natCast (n : Nat) : RoundsTo (round149 false n 1) n 1 := by
  have h := roundsTo_round149 (neg := false) (n := n) (d := 1) one_ne_zero (by simp)
  rwa [Int.natAbs_natCast, Int.natAbs_one] at h

theorem sub_inRange {a b lo hi : Word} (ha : isFinite a = true) (hb : isFinite b = true) (hlo : isFinite lo = true)
    (hhi : isFinite hi = true) (hl : scaled lo ≤ scaled a - scaled b) (hh : scaled a - scaled b ≤ scaled hi) :
    inRange lo hi (sub a b) :=
  inRange_of_roundsTo (sub_of_isFinite ha hb).1 one_pos hlo hhi (by rwa [mul_one]) (by rwa [mul_one])

theorem toNat_fabs (x : Word) : (fabs x).toNat = magBits x := by
  rw [fabs, BitVec.toNat_and, show (0x7FFFFFFF#32).toNat = 2 ^ 31 - 1 from rfl, Nat.and_two_pow_sub_one_eq_mod, magBits]

@[simp] theorem magBits_fabs (x : Word) : magBits (fabs x) = magBits x := by
  rw [magBits, toNat_fabs, magBits, Nat.mod_mod]

@[simp] theorem sign_fabs (x : Word) : sign (fabs x) = false := by
  rw [sign, toNat_fabs, decide_eq_false_iff_not, not_le]
  exact Nat.mod_lt _ (by norm_num)

@[simp] theorem isFinite_fabs (x : Word) : isFinite (fabs x) = isFinite x := by
  rw [isFinite, magBits_fabs, isFinite]

@[simp] theorem scaled_fabs (x : Word) : scaled (fabs x) = |scaled x| := by
  rw [Int.abs_eq_natAbs, natAbs_scaled, scaled, sign_fabs, if_neg Bool.false_ne_true, mag_eq_magOfBits, magBits_fabs,
    mag_eq_magOfBits]

/-! ## The waveforms of a phase (R232 to R234) -/

/-- R15: the remainder by a positive value of a value that is not negative, and so at most the divisor. -/
theorem fmod_inRange {x y : Word} (hx : isFinite x = true) (hy : isFinite y = true) (hs : sign x = false)
    (hpos : 0 < scaled y) : inRange plusZero y (fmod x y) := by
  have hnz : isZero y = false := by
    rw [← Bool.not_eq_true, isZero_iff_scaled]
    exact hpos.ne'
  have hfmod : fmod x y = round149 false (mag x % mag y) 1 := by
    simp [fmod, isNaN_of_isFinite, isInf_of_isFinite, hx, hy, hnz, hs]
  have hmag : (mag y : Int) = scaled y := by
    rw [← natAbs_scaled]
    omega
  have hlt : mag x % mag y < mag y := Nat.mod_lt _ (by omega)
  rw [hfmod]
  exact inRange_plusZero_of_roundsTo (roundsTo_round149_natCast _) one_pos hy (by omega) (by omega)

/-- R232: the sawtooth the triangle is folded from. -/
theorem fmod_four_mul_inRange {p : Word} (h : phaseOk p) :
    inRange plusZero (lit 4 1) (fmod (mul (lit 4 1) p) (lit 4 1)) := by
  have hrange := inRange_of_phaseOk h
  obtain ⟨hfin, -, -⟩ := (inRange_plusZero_iff (by decide)).1 hrange
  have hquad : inRange plusZero (lit 4 1) (mul (lit 4 1) p) := mul_inRange (by decide) (by decide) hrange
  refine fmod_inRange ((inRange_plusZero_iff (by decide)).1 hquad).1 (by decide) ?_ (by decide)
  rw [F32.sign_mul (by decide) hfin, ((phaseOk_iff p).1 h).1]
  decide

/-- R232: a value of [0, 4] less 2 is in [-2, 2], and 1 less its magnitude in [-1, 1]. -/
theorem triangleWave_inRange {p : Word} (h : phaseOk p) : inRange (neg (lit 1 1)) (lit 1 1) (triangleWave p) := by
  have htwo : scaled (lit 2 1) = 2 * (unit : Int) := by decide
  have hfour : scaled (lit 4 1) = 4 * (unit : Int) := by decide
  have htwoFin : isFinite (lit 2 1) = true := by decide
  obtain ⟨hmod, hmodLo, hmodHi⟩ := (inRange_plusZero_iff (by decide)).1 (fmod_four_mul_inRange h)
  rw [triangleWave]
  generalize fmod (mul (lit 4 1) p) (lit 4 1) = m at *
  have hsub : inRange (neg (lit 2 1)) (lit 2 1) (sub m (lit 2 1)) :=
    sub_inRange hmod htwoFin (by decide) htwoFin (by rw [scaled_neg]; omega) (by omega)
  obtain ⟨hfin, hlo, hhi⟩ := (inRange_iff (by decide) htwoFin).1 hsub
  have habs : |scaled (sub m (lit 2 1))| ≤ 2 * (unit : Int) := abs_le.2 ⟨by rw [scaled_neg] at hlo; omega, by omega⟩
  have hnonneg := abs_nonneg (scaled (sub m (lit 2 1)))
  refine sub_inRange (by decide) ((isFinite_fabs _).trans hfin) (by decide) (by decide) ?_ ?_ <;>
    simp only [scaled_neg, scaled_fabs, scaled_one] <;> omega

/-- R15, I1: a phase rounds to 0 below 0.5 and to 1 from there. -/
theorem round_of_phaseOk {p : Word} (h : phaseOk p) :
    isFinite (F32.round p) = true ∧ scaled (F32.round p) = if 2 * scaled p < (unit : Int) then 0 else (unit : Int) := by
  obtain ⟨hs, hlt⟩ := (phaseOk_iff p).1 h
  obtain ⟨hfin, hlo, -⟩ := (inRange_plusZero_iff (by decide)).1 (inRange_of_phaseOk h)
  have hmag : scaled p = mag p := by rw [scaled, hs, if_neg Bool.false_ne_true]
  have hround : F32.round p = round149 false ((2 * mag p + unit) / (2 * unit) * unit) 1 := by
    simp [F32.round, isNaN_of_isFinite hfin, isInf_of_isFinite hfin, hs]
  have hunit := unit_pos
  have hexact := roundsTo_round149_natCast ((2 * mag p + unit) / (2 * unit) * unit)
  rw [← hround] at hexact
  split
  · have hq : (2 * mag p + unit) / (2 * unit) = 0 := Nat.div_eq_of_lt (by omega)
    rw [hq, Nat.zero_mul] at hexact
    exact roundsTo_exact hexact (y := plusZero) (by decide) (by decide)
  · have hq : (2 * mag p + unit) / (2 * unit) = 1 := Nat.div_eq_of_lt_le (by omega) (by omega)
    rw [hq, Nat.one_mul] at hexact
    exact roundsTo_exact hexact (y := lit 1 1) (by decide) scaled_one

/-- R233: a phase less its rounding is in [-0.5, 0.5], and twice that in [-1, 1]. -/
theorem sawWave_inRange {p : Word} (h : phaseOk p) : inRange (neg (lit 1 1)) (lit 1 1) (sawWave p) := by
  have hhalf : 2 * scaled (lit 5 10) = (unit : Int) := by decide
  have htwo : scaled (lit 2 1) = 2 * (unit : Int) := by decide
  obtain ⟨hfin, hlo, hhi⟩ := (inRange_plusZero_iff (by decide)).1 (inRange_of_phaseOk h)
  rw [scaled_one] at hhi
  obtain ⟨hround, hvalue⟩ := round_of_phaseOk h
  have hsub : inRange (neg (lit 5 10)) (lit 5 10) (sub p (F32.round p)) := by
    refine sub_inRange hfin hround (by decide) (by decide) ?_ ?_ <;> simp only [scaled_neg, hvalue] <;> split <;> omega
  obtain ⟨hfin', hlo', hhi'⟩ := (inRange_iff (by decide) (by decide)).1 hsub
  rw [scaled_neg] at hlo'
  refine inRange_of_roundsTo (roundsTo_mul (by decide) hfin') unit_pos (by decide) (by decide) ?_ ?_ <;>
    simp only [scaled_neg, scaled_one, htwo] <;> nlinarith [unit_pos]

theorem squareWave_inRange (p : Word) : inRange (neg (lit 1 1)) (lit 1 1) (squareWave p) := by
  rw [squareWave]
  split <;> decide

/-! ## The phases in a frame (R243) -/

/-- R351, R349: the reverb leaves the phases of its channel. -/
theorem reverbChannel_phases (cfg : Params) (S : Snapshot) (off : Int) (c : Chan) (x : Word) (ch : ChannelState) :
    (reverbChannel cfg S off c x ch).2.phA = ch.phA ∧ (reverbChannel cfg S off c x ch).2.phB = ch.phB := ⟨rfl, rfl⟩

/-- R244: in a frame a channel's phases advance once, at the channel's frequency. -/
theorem channelOut_phases (cfg : Params) (s : State) (c : Chan) (ch : ChannelState) :
    let f := channelFreq (modulate cfg s.fs (snapshot s.params) s.phWob s.phSwp) c
    (channelOut cfg s c ch).2.phA = advancePhase s.fs f ch.phA ∧
      (channelOut cfg s c ch).2.phB = advancePhase s.fs f ch.phB := by
  intro f
  obtain ⟨p, q, d, hch⟩ := channelFrame_channel cfg s.fs s.dampA (snapshot s.params) c f ch
  have hdry : (channelDry cfg s c ch).2 = _ := hch
  rw [channelOut]
  split
  · rw [hdry]
    exact ⟨rfl, rfl⟩
  · rw [(reverbChannel_phases ..).1, (reverbChannel_phases ..).2, hdry]
    exact ⟨rfl, rfl⟩

theorem channel_frame (cfg : Params) (s : State) (c : Chan) :
    channel (frame cfg s) c = (channelOut cfg s c (channel s c)).2 := by
  rw [frame_eq]
  cases c <;> rfl

/-- R154: a command that leaves the datapath leaves both channels. -/
theorem channel_eq_of_datapath_eq {s t : State} (h : datapath t = datapath s) (c : Chan) :
    channel t c = channel s c := by
  simp only [datapath, Prod.mk.injEq] at h
  obtain ⟨-, -, -, -, -, hl, hr⟩ := h
  cases c
  · exact hl
  · exact hr

end Sys2Proof.Machine

namespace Sys2Proof

/-! ## The statements -/

open Sys2Proof.Machine Sys2Proof.F32

/-- Settles O35: an unmuted frame by `channelOut_phases`; of the other commands INIT alone writes a channel
(`datapath_effect`). -/
theorem frameAdvancesEachOscillatorOnce : Obligations.FrameAdvancesEachOscillatorOnce := by
  refine ⟨fun s hs => ⟨_, exec_process s, fun hm c => ?_, fun hm c => ?_⟩, fun i s t ht hp => ?_⟩
  · rw [if_pos hs, if_pos hm]
    cases c <;> exact ⟨rfl, rfl⟩
  · rw [if_pos hs, if_neg (by simp [hm]), channel_frame]
    cases c <;> exact channelOut_phases implementation s _ _
  rw [exec_next] at ht
  cases ht
  split
  case isFalse => exact .inl fun c => by cases c <;> exact ⟨rfl, rfl⟩
  case isTrue =>
    by_cases hi : i = .init
    · subst hi
      rcases initFromData_cases implementation s with ⟨-, hf⟩ | ⟨-, hf⟩ <;> rw [effect, hf]
      · exact .inr ⟨rfl, fun c => by rw [channel_initState]; exact ⟨rfl, rfl⟩⟩
      · exact .inl fun c => by cases c <;> exact ⟨rfl, rfl⟩
    · exact .inl fun c => by rw [channel_eq_of_datapath_eq (datapath_effect hi hp s) c]; exact ⟨rfl, rfl⟩

/-- Settles O45, by `phaseOk_advancePhase`. -/
theorem phaseStaysInUnitInterval : Obligations.PhaseStaysInUnitInterval := by
  intro fs f ph hfs hf hph
  exact phaseOk_advancePhase hfs (by rwa [plusZero, lit_12000]) hph

/-- Settles O46: the formulas are the model's own, with the words of the square written out; each waveform's range by
itself. -/
theorem arithmeticWaveformsStayInRange : Obligations.ArithmeticWaveformsStayInRange := by
  refine ⟨fun p => ⟨rfl, rfl, rfl, ?_⟩, fun p i hp hlo hhi => ?_⟩
  · rw [← lit_0_5, ← lit_0_8, show 0xBF4CCCCD#32 = neg (lit 8 10) by decide]
    rfl
  · rw [← lit_1, show 0xBF800000#32 = neg (lit 1 1) by decide]
    interval_cases i
    · exact triangleWave_inRange hp
    · exact sawWave_inRange hp
    · exact squareWave_inRange p

/-- Settles O47: the blend position is a phase (`phaseOk_morphIndex_fr`), and the integer points are computed. -/
theorem morphIndexesAreAdjacent : Obligations.MorphIndexesAreAdjacent := by
  refine ⟨fun w => ⟨rfl, morphIndex_fr w⟩, fun w hw => ?_, ?_, ?_, ?_, ?_⟩
  · exact ⟨morphIndex_ia_le w, morphIndex_ib w, phaseOk_morphIndex_fr hw⟩
  all_goals decide

/-- Settles O48: at blend position 0 the blend is its first sample (`morphBlend_plusZero`). -/
theorem morphAtIntegerPointIsExact : Obligations.MorphAtIntegerPointIsExact := by
  refine ⟨fun fs w f ch => ⟨rfl, fun hfr ha hb hne => ?_⟩, fun a b => morphBlend_plusZero⟩
  rw [voice, hfr]
  exact morphBlend_plusZero ha hb hne

end Sys2Proof
end

section
/-! PROOFS. The Modulation Engine and the pitch path (43_modulation R260 to R273): the statements O36, O43 and O44.

The ideas: the oscillator clamp keeps the words of its range and sends every word that is not at least 20.0 Hz, a
NaN included, to 20.0 Hz, so it separates words only by their value. A product with a detune of +0.0 is a zero or, of an
infinity or a NaN, a NaN; added or subtracted, it leaves the value of the base frequency or makes both channels' sums a
NaN (`clampFreq_sub_eq_clampFreq_add`). -/

namespace Sys2Proof.Machine

open Sys2Proof.F32

/-! ## The ends of a clamp with a positive lower end (R15) -/

theorem eq_of_key_eq_of_pos {a b : Word} (h : key a = key b) (hpos : 0 < key b) : a = b := by
  have hb : scaled plusZero < scaled b := (key_lt_iff _ _).1 hpos
  rw [scaled_plusZero] at hb
  exact eq_of_scaled_eq_of_ne_zero
    (le_antisymm ((key_le_iff a b).1 h.le) ((key_le_iff b a).1 h.ge)) hb.ne'

theorem max_of_le {x lo : Word} (hpos : 0 < key lo) (h : le lo x = true) : F32.max x lo = x := by
  obtain ⟨hlo, hx, hle⟩ := (le_iff_key lo x).1 h
  rcases hle.lt_or_eq with hlt | heq
  · simp [F32.max, hlo, hx, hlt, hlt.not_gt]
  · obtain rfl := eq_of_key_eq_of_pos heq.symm hpos
    simp [F32.max, hlo]

theorem min_of_le {x hi : Word} (hpos : 0 < key hi) (h : le x hi = true) : F32.min x hi = x := by
  obtain ⟨hx, hhi, hle⟩ := (le_iff_key x hi).1 h
  rcases hle.lt_or_eq with hlt | heq
  · simp [F32.min, hhi, hx, hlt]
  · obtain rfl := eq_of_key_eq_of_pos heq hpos
    simp [F32.min, hhi]

/-- R15: a word that is not at least `lo`, a NaN included, is replaced by `lo`. -/
theorem max_of_not_le {x lo : Word} (hlo : isNaN lo = false) (h : le lo x = false) : F32.max x lo = lo := by
  cases hx : isNaN x with
  | true => simp [F32.max, hx, hlo]
  | false =>
    have hlt : key x < key lo := by simpa [le, hlo, hx] using h
    simp [F32.max, hx, hlo, hlt]

/-! ## The oscillator clamp (R269) -/

theorem clampFreq_of_inRange {f : Word} (h : inRange (lit 20 1) (lit 12000 1) f) : clampFreq f = f := by
  obtain ⟨hlo, hhi⟩ := h
  rw [clampFreq, clamp, max_of_le (by decide) hlo, min_of_le (by decide) hhi]

theorem clampFreq_of_not_le {f : Word} (h : le (lit 20 1) f = false) : clampFreq f = lit 20 1 := by
  rw [clampFreq, clamp, max_of_not_le (by decide) h]
  decide

theorem clampFreq_of_isNaN {f : Word} (h : isNaN f = true) : clampFreq f = lit 20 1 :=
  clampFreq_of_not_le (by simp [le, h])

theorem clampFreq_of_scaled_eq_zero {f : Word} (h : scaled f = 0) : clampFreq f = lit 20 1 := by
  have hpos : 0 < scaled (lit 20 1) := by decide
  refine clampFreq_of_not_le (Bool.eq_false_iff.2 fun hle => ?_)
  obtain ⟨-, -, hkey⟩ := (le_iff_key _ _).1 hle
  rw [key_le_iff, h] at hkey
  exact hkey.not_gt hpos

/-- The clamp does not tell the two zeros apart, and no other two words have one value. -/
theorem clampFreq_congr {f g : Word} (h : scaled f = scaled g) : clampFreq f = clampFreq g := by
  by_cases hg : scaled g = 0
  · rw [clampFreq_of_scaled_eq_zero hg, clampFreq_of_scaled_eq_zero (h.trans hg)]
  · rw [eq_of_scaled_eq_of_ne_zero h hg]

/-! ## No detune (R268, R269) -/

theorem isNaN_or_isInf_or_isFinite (x : Word) : isNaN x = true ∨ isInf x = true ∨ isFinite x = true := by
  simp only [isNaN, isInf, isFinite, decide_eq_true_eq]
  omega

theorem mul_plusZero_cases (x : Word) :
    isNaN (mul x plusZero) = true ∨ (isFinite (mul x plusZero) = true ∧ scaled (mul x plusZero) = 0) := by
  rcases isNaN_or_isInf_or_isFinite x with hnan | hinf | hfin
  · obtain ⟨-, -, hmul, -⟩ := operators_nan (.inl hnan : isNaN x = true ∨ isNaN plusZero = true)
    exact .inl hmul
  · obtain ⟨-, -, -, -, -, hzero, -⟩ := operators_inf_finite hinf (by decide : isFinite plusZero = true)
    exact .inl (hzero (by decide)).1
  · exact .inr (mul_plusZero hfin)

/-- The two channels meet if the detune is a zero or a NaN, whatever the base frequency. -/
theorem clampFreq_sub_eq_clampFreq_add (a : Word) {z : Word}
    (hz : isNaN z = true ∨ (isFinite z = true ∧ scaled z = 0)) : clampFreq (sub a z) = clampFreq (add a z) := by
  have hnan (h : isNaN a = true ∨ isNaN z = true) : clampFreq (sub a z) = clampFreq (add a z) := by
    obtain ⟨hadd, hsub, -, -⟩ := operators_nan h
    rw [clampFreq_of_isNaN hsub, clampFreq_of_isNaN hadd]
  rcases hz with hzn | ⟨hzf, hz0⟩
  · exact hnan (.inr hzn)
  rcases isNaN_or_isInf_or_isFinite a with han | hai | haf
  · exact hnan (.inl han)
  · obtain ⟨hadd, -, hsub, -⟩ := operators_inf_finite hai hzf
    rw [hadd, hsub]
  · obtain ⟨-, hadd⟩ := roundsTo_exact (add_of_isFinite haf hzf).1 haf (by rw [hz0, add_zero])
    obtain ⟨-, hsub⟩ := roundsTo_exact (sub_of_isFinite haf hzf).1 haf (by rw [hz0, sub_zero])
    exact clampFreq_congr (by rw [hsub, hadd, hz0, sub_zero, add_zero])

/-! ## The LFOs in a frame (R261, R270) -/

/-- R261, R272: a frame leaves both LFO phases as the pitch path advanced them. -/
theorem frame_lfoPhases (cfg : Params) (s : State) :
    (frame cfg s).phWob = advancePhase s.fs (wobbleRate (snapshot s.params)) s.phWob ∧
      (frame cfg s).phSwp = advancePhase s.fs (sweepRate (snapshot s.params)) s.phSwp := by
  rw [frame_eq]
  exact ⟨rfl, rfl⟩

end Sys2Proof.Machine

namespace Sys2Proof

/-! ## The statements -/

open Sys2Proof.Machine Sys2Proof.F32

/-- Settles O36: slots 11 and 13 of the snapshot give the rates, and no amount stands in the phases
(`frame_lfoPhases`). -/
theorem frameAdvancesBothLfos : Obligations.FrameAdvancesBothLfos := by
  intro s hs hm
  exact ⟨_, execProcess_unmuted hs hm, frame_lfoPhases implementation s⟩

/-- Settles O43: `clamp` answers a value of its range for every word, and keeps those of the range. -/
theorem channelFrequenciesAreClamped : Obligations.ChannelFrequenciesAreClamped := by
  have hrange : le (lit 20 1) (lit 12000 1) = true := by decide
  rw [Obligations.ChannelFrequenciesAreClamped, ← lit_20, ← lit_12000]
  exact ⟨fun _ _ _ _ => ⟨clamp_inRange _ hrange, clamp_inRange _ hrange⟩, fun _ => clampFreq_of_inRange⟩

/-- Settles O44: the formula is the model's own, and a product with a detune of +0.0 is a zero or a NaN. -/
theorem noDetuneGivesEqualFrequencies : Obligations.NoDetuneGivesEqualFrequencies := by
  refine fun fs S pw ps => ⟨⟨rfl, rfl⟩, fun hdetune => clampFreq_sub_eq_clampFreq_add _ ?_⟩
  rw [detuneHz, hdetune]
  exact mul_plusZero_cases _

end Sys2Proof
end

section
/-! PROOFS. The Effects Chain (44_effects_chain R290 to R315): the statements O37, O49 and O50.

The ideas: a word that lies neither below nor above two ordered thresholds is a NaN or in the closed range between them
(`isNaN_or_inRange_iff`), which is the dead-zone of the filter and the identity range of the limiter alike. Negation
swaps the limiter's two outer branches (`lt_neg_comm`), so it is odd. A frame with every bypass taken is, channel by
channel, the damping of its voice (`channelOut_of_allBypassed`). -/

namespace Sys2Proof.Machine

open Sys2Proof.F32

/-! ## Words between two thresholds (R15) -/

theorem isNaN_or_inRange_iff {lo hi : Word} (hlo : isNaN lo = false) (hhi : isNaN hi = false) (v : Word) :
    isNaN v = true ∨ inRange lo hi v ↔ lt v lo = false ∧ lt hi v = false := by
  cases hv : isNaN v <;> simp [inRange, le, lt, hlo, hhi, hv]

theorem not_lt_of_le_of_lt {lo hi v : Word} (h : le lo hi = true) (hv : lt hi v = true) : lt v lo = false := by
  obtain ⟨-, -, hle⟩ := (le_iff_key lo hi).1 h
  simp only [lt, Bool.and_eq_true, decide_eq_true_eq] at hv
  simp [lt, (hle.trans_lt hv.2).le]

@[simp] theorem key_neg (x : Word) : key (neg x) = -key x := by
  rw [key, key, sign_neg, magBits_neg]
  cases sign x <;> simp

theorem lt_neg_comm (a b : Word) : lt a (neg b) = lt b (neg a) := by
  simp only [lt, isNaN_neg, key_neg, lt_neg (a := key a), Bool.and_comm (!isNaN a)]

/-! ## The soft limiter (R313) -/

theorem limit_of_above {x : Word} (h : lt knee x = true) : limit x = softKnee x := if_pos h

theorem limit_of_below {x : Word} (h : lt x (neg knee) = true) : limit x = neg (softKnee (neg x)) := by
  have habove : lt knee x = false := Bool.eq_false_iff.2 fun hx => by
    simp [not_lt_of_le_of_lt (by decide : le (neg knee) knee = true) hx] at h
  simp [limit, gt, habove, h]

/-- R314, R315: between the knees, both included, and at a NaN the limiter is the identity. -/
theorem limit_of_between {x : Word} (h : lt x (neg knee) = false ∧ lt knee x = false) : limit x = x := by
  simp [limit, gt, h]

/-- R315: the branch above the knee and the one below its negation swap under sign inversion. -/
theorem limit_neg (x : Word) : limit (neg x) = neg (limit x) := by
  have hbelow : lt (neg x) (neg knee) = lt knee x := by rw [lt_neg_comm, F32.neg_neg]
  have habove : lt knee (neg x) = lt x (neg knee) := lt_neg_comm knee x
  cases ha : lt knee x with
  | true => rw [limit_of_above ha, limit_of_below (hbelow.trans ha), F32.neg_neg]
  | false =>
    cases hb : lt x (neg knee) with
    | true => rw [limit_of_below hb, limit_of_above (habove.trans hb), F32.neg_neg]
    | false => rw [limit_of_between ⟨hb, ha⟩, limit_of_between ⟨hbelow.trans ha, habove.trans hb⟩]

/-! ## The branches of the filter (R300, R301) -/

theorem filterBranch_of_lowPass {v : Word} (h : lt v (lit 45 100) = true) :
    filterBranch v = some (lowPassCutoff v, .lp) := if_pos h

theorem filterBranch_of_highPass {v : Word} (h : lt (lit 55 100) v = true) :
    filterBranch v = some (highPassCutoff v, .hp) := by
  simp only [filterBranch, gt, not_lt_of_le_of_lt (by decide : le (lit 45 100) (lit 55 100) = true) h, h,
    Bool.false_eq_true, ↓reduceIte]

theorem filterBranch_of_deadZone {v : Word} (h : lt v (lit 45 100) = false ∧ lt (lit 55 100) v = false) :
    filterBranch v = none := by
  simp only [filterBranch, gt, h, Bool.false_eq_true, ↓reduceIte]

/-- R301: the three branches, each with the comparison that selects it. -/
theorem filterBranch_iff (v : Word) :
    (filterBranch v = none ↔ lt v (lit 45 100) = false ∧ lt (lit 55 100) v = false) ∧
    ((∃ fc, filterBranch v = some (fc, .lp)) ↔ lt v (lit 45 100) = true) ∧
    ((∃ fc, filterBranch v = some (fc, .hp)) ↔ lt (lit 55 100) v = true) := by
  cases hh : lt (lit 55 100) v with
  | true =>
    have hl := not_lt_of_le_of_lt (by decide : le (lit 45 100) (lit 55 100) = true) hh
    rw [filterBranch_of_highPass hh, hl]
    simp
  | false =>
    cases hl : lt v (lit 45 100) with
    | true => rw [filterBranch_of_lowPass hl]; simp
    | false => rw [filterBranch_of_deadZone ⟨hl, hh⟩]; simp

/-- R301, with the words of 0.45 and 0.55: the dead-zone is the closed range and takes a NaN. -/
theorem filterBranch_eq_none_iff (v : Word) :
    filterBranch v = none ↔ isNaN v = true ∨ inRange 0x3EE66666#32 0x3F0CCCCD#32 v := by
  rw [(filterBranch_iff v).1, isNaN_or_inRange_iff (by decide) (by decide), lit_0_45, lit_0_55]

theorem filterStage_of_none {S : Snapshot} (h : filterBranch S.filter = none) (cfg : Params) (fs x : Word)
    (ch : ChannelState) : filterStage cfg fs S x ch = (x, ch) := by
  rw [filterStage, h]

/-! ## Bypassed stages in a frame (R290, R291, R345) -/

/-- R158, R291: with drive, phaser and filter passed through, the chain is its damping stage. -/
theorem channelChain_of_bypassed {S : Snapshot} (hdrive : bypassed S.dist = true) (hphaser : bypassed S.phaser = true)
    (hfilter : filterBranch S.filter = none) (cfg : Params) (fs dampA : Word) (c : Chan) (v : Word)
    (ch : ChannelState) : channelChain cfg fs dampA S c v ch = damp dampA v ch := by
  have hd : drive cfg S v = v := if_pos hdrive
  have hp : phaser cfg fs S c v ch = (v, ch) := if_pos hphaser
  rw [channelChain, hd, hp, filterStage_of_none hfilter]

/-- R345: with the reverb bypassed, a channel's frame ends with its chain. -/
theorem channelOut_of_bypassed {s : State} (h : bypassed (snapshot s.params).rvAmt = true) (cfg : Params) (c : Chan)
    (ch : ChannelState) : channelOut cfg s c ch = channelDry cfg s c ch := if_pos h

theorem frame_phRev_of_bypassed {s : State} (h : bypassed (snapshot s.params).rvAmt = true) (cfg : Params) :
    (frame cfg s).phRev = s.phRev := by
  rw [frame_eq]
  exact if_pos h

/-- R311, R312: with the reverb bypassed, the output stage takes what damping stored. -/
theorem frame_outputs_of_bypassed {s : State} (h : bypassed (snapshot s.params).rvAmt = true) (cfg : Params) :
    (frame cfg s).outL = limit (gain (snapshot s.params) (frame cfg s).left.dmp) ∧
      (frame cfg s).outR = limit (gain (snapshot s.params) (frame cfg s).right.dmp) := by
  rw [frame_eq]
  simp only [channelOut_of_bypassed h]
  exact ⟨rfl, rfl⟩

/-- R290, R291: with every bypass taken, a channel's frame is its voice and the damping of it. -/
theorem channelOut_of_allBypassed {s : State} (hdrive : bypassed (snapshot s.params).dist = true)
    (hphaser : bypassed (snapshot s.params).phaser = true) (hfilter : filterBranch (snapshot s.params).filter = none)
    (hreverb : bypassed (snapshot s.params).rvAmt = true) (cfg : Params) (c : Chan) (ch : ChannelState) :
    let v := voice cfg s.fs (snapshot s.params).wave
      (channelFreq (modulate cfg s.fs (snapshot s.params) s.phWob s.phSwp) c) ch
    channelOut cfg s c ch = damp s.dampA v.1 v.2 := by
  rw [channelOut_of_bypassed hreverb, channelDry, channelFrame, channelChain_of_bypassed hdrive hphaser hfilter]

end Sys2Proof.Machine

namespace Sys2Proof

/-! ## The statements -/

open Sys2Proof.Machine Sys2Proof.F32

/-- Settles O37: each channel's frame is the damping of its voice (`channelOut_of_allBypassed`), and neither writes a
bypassed stage's state. -/
theorem allBypassedFrame : Obligations.AllBypassedFrame := by
  intro s hs hm hdrive hphaser hfilter hreverb
  rw [← bypassed_eq] at hdrive hphaser hreverb
  obtain ⟨houtL, houtR⟩ := frame_outputs_of_bypassed hreverb implementation
  refine ⟨_, execProcess_unmuted hs hm, frame_phRev_of_bypassed hreverb _, houtL, houtR, fun c => ?_⟩
  rw [channel_frame, channelOut_of_allBypassed hdrive hphaser ((filterBranch_eq_none_iff _).2 (.inr hfilter)) hreverb]
  cases c <;> exact ⟨rfl, rfl, rfl, rfl, rfl, rfl⟩

/-- Settles O49: the two comparisons select the branch (`filterBranch_iff`), and both fail exactly at a NaN and in the
closed range (`filterBranch_eq_none_iff`). -/
theorem filterBranchesPartition : Obligations.FilterBranchesPartition := by
  refine ⟨fun v => ?_, fun cfg fs x S ch h => filterStage_of_none ((filterBranch_eq_none_iff _).2 h) cfg fs x ch⟩
  obtain ⟨-, hlow, hhigh⟩ := filterBranch_iff v
  rw [lit_0_45] at hlow
  rw [lit_0_55] at hhigh
  exact ⟨filterBranch_eq_none_iff v, hlow, hhigh⟩

/-- Settles O50: oddness by `limit_neg`; the closed range and the NaNs are the words between the knees
(`isNaN_or_inRange_iff`). -/
theorem limiterShape : Obligations.LimiterShape := by
  have hneg : neg knee = 0xBF666666#32 := by decide
  have hid (x : Word) (h : isNaN x = true ∨ inRange 0xBF666666#32 0x3F666666#32 x) : limit x = x := by
    rw [← hneg, ← lit_0_9] at h
    exact limit_of_between ((isNaN_or_inRange_iff (by decide) (by decide) x).1 h)
  refine ⟨limit_neg, fun x h => hid x (.inr h), fun x h => ?_, fun x h => hid x (.inl h), by decide⟩
  rw [← lit_0_9] at h ⊢
  rw [← lit_0_1]
  exact limit_of_above h

end Sys2Proof
end

section
/-! PROOFS. The Reverb Network (45_reverb R341 to R359): the statements O39 to O41 and O51 to O53.

The ideas: a write moves the write index on by one, so a tap one further back points where it did, and it meets the
sample just written at length 1 alone (`memRead_memWrite`); R344 follows by induction from the last write. In a series
of all-passes a stage changes its own line only, so each line takes its step as the frame found it, on an input that is
a function of the lines before it (`apInput`). A frame with the reverb on is, channel by channel, the reverb of what the
chain left (`channelOut_of_on`), and the chain leaves every delay line (`channelDry_lines`). -/

namespace Sys2Proof.Machine

open Sys2Proof.F32

/-! ## Reads after writes of a delay line (R341 to R344) -/

theorem readTap_setLength_zero {cap : Nat} {l : DelayLine} (h : l.wp < cap) : readTap cap (setLength 0 l) = l.wp := by
  simp only [readTap, setLength_wp, setLength_len, Nat.cast_zero, sub_zero]
  rw [Int.emod_eq_of_lt (by omega) (by omega), Int.toNat_natCast]

theorem readTap_setLength_ne_wp {cap d : Nat} {l : DelayLine} (h : l.wp < cap) (hd : 0 < d) (hdc : d < cap) :
    readTap cap (setLength d l) ≠ l.wp := by
  have hemod : ((l.wp : Int) - d) % cap = if d ≤ l.wp then (l.wp : Int) - d else (l.wp : Int) - d + cap := by
    split
    · exact Int.emod_eq_of_lt (by omega) (by omega)
    · rw [← Int.add_emod_right]
      exact Int.emod_eq_of_lt (by omega) (by omega)
  simp only [readTap, setLength_wp, setLength_len, hemod]
  split <;> omega

/-- R341, R342: a write moves the write index on by one, so a tap one further back stays where it was. -/
theorem readTap_setLength_memWrite (cap d : Nat) (v : Word) (l : DelayLine) :
    readTap cap (setLength (d + 1) (memWrite cap v l)) = readTap cap (setLength d l) := by
  simp only [readTap, setLength_wp, setLength_len, memWrite_wp, Int.natCast_emod, Int.emod_sub_emod]
  congr 2
  omega

/-- R342: a write stores at the write index and nowhere else. -/
theorem bufRead_memWrite {cap : Nat} {l : DelayLine} (v : Word) (h : lineOk cap l) :
    bufRead (memWrite cap v l).buf l.wp = v ∧
      ∀ n, n ≠ l.wp → bufRead (memWrite cap v l).buf n = bufRead l.buf n := by
  obtain ⟨-, hwf, -⟩ := h
  exact ⟨bufRead_bufWrite_same _ _ hwf, fun n hn => bufRead_bufWrite_other _ _ hn.symm⟩

/-- R344, for one write: length 1 reads it, and a longer length reads what one less read before it. -/
theorem memRead_memWrite {cap d : Nat} {l : DelayLine} (v : Word) (h : lineOk cap l) (hd : d < cap) :
    memRead cap (setLength (d + 1) (memWrite cap v l)) = if d = 0 then v else memRead cap (setLength d l) := by
  obtain ⟨hsame, hother⟩ := bufRead_memWrite v h
  rw [memRead, setLength_buf, readTap_setLength_memWrite]
  split
  case isTrue hd0 => rw [hd0, readTap_setLength_zero h.1, hsame]
  case isFalse hd0 => exact hother _ (readTap_setLength_ne_wp h.1 (Nat.pos_of_ne_zero hd0) hd)

theorem writeAll_concat (cap : Nat) (l : List (Nat × Word)) (p : Nat × Word) (line : DelayLine) :
    writeAll cap (l ++ [p]) line = memWrite cap p.2 (setLength p.1 (writeAll cap l line)) := by
  simp [writeAll]

theorem writeAll_lineOk {cap : Nat} (l : List (Nat × Word)) {line : DelayLine} (h : lineOk cap line) :
    lineOk cap (writeAll cap l line) := by
  induction l using List.reverseRecOn with
  | nil => exact h
  | append_singleton l p ih =>
    rw [writeAll_concat]
    exact memWrite_lineOk _ (setLength_lineOk _ ih)

/-- R344. The last write of the list is the most recent one. -/
theorem memRead_writeAll {cap d : Nat} (len0 : Nat) (l : List (Nat × Word)) (hd : 1 ≤ d) (hdc : d ≤ cap) :
    memRead cap (setLength d (writeAll cap l (freshLine len0))) =
      if d ≤ l.length then (l.getD (l.length - d) (0, 0#32)).2 else 0#32 := by
  induction l using List.reverseRecOn generalizing d with
  | nil =>
    rw [if_neg (by simp; omega)]
    rfl
  | append_singleton l p ih =>
    obtain ⟨k, rfl⟩ := Nat.exists_eq_add_of_le' hd
    have hok := writeAll_lineOk l (freshLine_lineOk len0 (show 0 < cap by omega))
    rw [writeAll_concat, memRead_memWrite _ (setLength_lineOk p.1 hok) (by omega)]
    rcases Nat.eq_zero_or_pos k with rfl | hk
    · simp
    · rw [if_neg hk.ne']
      refine (ih hk (by omega)).trans ?_
      by_cases hkl : k ≤ l.length
      · rw [if_pos hkl, if_pos (by simpa using hkl), List.getD_append _ _ _ _ (by simp; omega)]
        simp
      · rw [if_neg hkl, if_neg (by simpa using hkl)]

/-! ## Lengths and the comb offset (R347, R348) -/

theorem inRange_neg_iff {hi x : Word} (hhi : isFinite hi = true) :
    inRange (neg hi) hi x ↔ isFinite x = true ∧ |scaled x| ≤ scaled hi := by
  rw [inRange_iff (by rwa [isFinite_neg]) hhi, scaled_neg, abs_le]

/-- R13: rounding does not take a product out of a symmetric range. -/
theorem mul_inRange_of_abs_le {a b hi : Word} (ha : isFinite a = true) (hb : isFinite b = true)
    (hhi : isFinite hi = true) (h : |scaled a| * |scaled b| ≤ scaled hi * (unit : Int)) :
    inRange (neg hi) hi (mul a b) := by
  rw [← abs_mul, abs_le, ← neg_mul, ← scaled_neg] at h
  exact inRange_of_roundsTo (roundsTo_mul ha hb) unit_pos (by rwa [isFinite_neg]) hhi h.1 h.2

/-- R348: the operand of `floor` is in [-15, 15]. -/
theorem modProduct_inRange {m amt : Word} (hm : inRange (neg (lit 1 1)) (lit 1 1) m)
    (hamt : inRange plusZero (lit 1 1) amt) :
    inRange (neg (lit 15 1)) (lit 15 1) (mul (mul m (lit 15 1)) amt) := by
  have hfifteen : isFinite (lit 15 1) = true := by decide
  obtain ⟨hmf, hmle⟩ := (inRange_neg_iff (by decide)).1 hm
  obtain ⟨haf, hapos, hale⟩ := (inRange_plusZero_iff (by decide)).1 hamt
  have hscaled : inRange (neg (lit 15 1)) (lit 15 1) (mul m (lit 15 1)) := by
    refine mul_inRange_of_abs_le hmf hfifteen hfifteen ?_
    rw [abs_of_nonneg (by decide : 0 ≤ scaled (lit 15 1)), mul_comm, ← scaled_one]
    exact mul_le_mul_of_nonneg_left hmle (by decide)
  obtain ⟨hpf, hple⟩ := (inRange_neg_iff hfifteen).1 hscaled
  refine mul_inRange_of_abs_le hpf haf hfifteen ?_
  rw [abs_of_nonneg hapos, ← scaled_one]
  exact mul_le_mul hple hale hapos (by decide)

/-- R348: the floor of a value in [-15, 15] is an integer of that range, which `toInt` gives. -/
theorem toInt_floor_of_fifteen {x : Word} (h : inRange (neg (lit 15 1)) (lit 15 1) x) :
    -15 ≤ toInt (floor x) ∧ toInt (floor x) ≤ 15 := by
  obtain ⟨hfin, hle⟩ := (inRange_neg_iff (by decide)).1 h
  rw [show scaled (lit 15 1) = 15 * (unit : Int) by decide, abs_le] at hle
  have hlo : -15 ≤ scaled x / (unit : Int) := (Int.le_ediv_iff_mul_le unit_pos).2 (by rw [neg_mul]; exact hle.1)
  have hhi : scaled x / (unit : Int) ≤ 15 :=
    (Int.ediv_le_ediv unit_pos hle.2).trans_eq (Int.mul_ediv_cancel _ unit_pos.ne')
  rw [toInt_floor hfin (by omega) (by omega)]
  exact ⟨hlo, hhi⟩

theorem spreadOf_eq_ite (c : Chan) : spreadOf c = if c = .right then 23 else 0 := by cases c <;> rfl

theorem offsetSign_eq (c : Chan) (i : Fin 8) :
    offsetSign c i = (if i.val % 2 = 0 then 1 else -1) * (if c = .left then 1 else -1) := by cases c <;> rfl

/-! ## The combs and the all-passes of a channel (R349 to R352) -/

/-- R349: what a comb step stores, and where. -/
theorem combStep_buf {l : DelayLine} (len : Nat) (f d x z : Word) (h : lineOk Config.combCap l) :
    bufRead (combStep len f d x l z).line.buf l.wp = add x (mul (combStep len f d x l z).damped f) ∧
      ∀ n, n ≠ l.wp → bufRead (combStep len f d x l z).line.buf n = bufRead l.buf n :=
  bufRead_memWrite _ (setLength_lineOk len h)

/-- R351: what an all-pass step stores, and where. -/
theorem apStep_buf {l : DelayLine} (len : Nat) (x : Word) (h : lineOk Config.apCap l) :
    bufRead (apStep len x l).2.buf l.wp = add x (mul (memRead Config.apCap l) (lit 5 10)) ∧
      ∀ n, n ≠ l.wp → bufRead (apStep len x l).2.buf n = bufRead l.buf n :=
  ⟨(apStep_sample len x l h).1, (bufRead_memWrite _ h).2⟩

/-- R351: what an all-pass stage passes on. -/
def apPassed (line : DelayLine) (x : Word) : Word :=
  let r := memRead Config.apCap line
  sub r (mul (add x (mul r (lit 5 10))) (lit 5 10))

theorem apAt_fst (cfg : Params) (c : Chan) (j : Fin 4) (p : Word × ChannelState) :
    (apAt cfg c j p).1 = apPassed p.2.ap[j] p.1 := rfl

/-- R352: the input of each stage of the series, of the lines as the frame finds them. -/
def apInput (ap : Vector DelayLine 4) (x : Word) : Fin 4 → Word
  | 0 => x
  | 1 => apPassed ap[0] x
  | 2 => apPassed ap[1] (apPassed ap[0] x)
  | 3 => apPassed ap[2] (apPassed ap[1] (apPassed ap[0] x))

/-- `apAt_line` at an index that is a numeral. -/
theorem apAt_getElem (cfg : Params) (c : Chan) (j : Fin 4) (p : Word × ChannelState) (k : Nat) (hk : k < 4) :
    (apAt cfg c j p).2.ap[k] = if k = j.val then (apStep (apLength cfg c j) p.1 p.2.ap[j]).2 else p.2.ap[k] :=
  (apAt_line cfg c j ⟨k, hk⟩ p).trans (if_congr Fin.ext_iff rfl rfl)

/-- R351, R352: in the series each line takes its own step, on the output of the stage before. -/
theorem apCascade_line (cfg : Params) (c : Chan) (p : Word × ChannelState) (j : Fin 4) :
    (apCascade cfg c p).2.ap[j] =
      (apStep (apLength cfg c j) (apInput p.2.ap p.1 j) p.2.ap[j]).2 := by
  fin_cases j <;> simp [apCascade, apAt_getElem, apAt_fst, apInput]

theorem apCascade_fst (cfg : Params) (c : Chan) (p : Word × ChannelState) :
    (apCascade cfg c p).1 = apPassed p.2.ap[3] (apInput p.2.ap p.1 3) := by
  simp [apCascade, apAt_getElem, apAt_fst, apInput]

/-- R350: the values the comb lines of a channel read at their new lengths, summed. -/
def combSum (cfg : Params) (c : Chan) (off : Int) (ch : ChannelState) : Word :=
  sumInOrder (Vector.ofFn fun i => memRead Config.combCap (setLength (combLength cfg c i off) ch.comb[i]))

theorem combSum_eq (cfg : Params) (c : Chan) (off : Int) (ch : ChannelState) :
    let o := fun i : Fin 8 => memRead Config.combCap (setLength (combLength cfg c i off) ch.comb[i])
    combSum cfg c off ch =
      add (add (add (add (add (add (add (o 0) (o 1)) (o 2)) (o 3)) (o 4)) (o 5)) (o 6)) (o 7) := by
  simp [combSum, sumInOrder]

theorem combBank_fst (cfg : Params) (c : Chan) (off : Int) (f d x : Word) (ch : ChannelState) :
    (combBank cfg c off f d x ch).1 = combSum cfg c off ch := by
  refine congrArg sumInOrder ?_
  ext i hi
  simp [combAt, combStep]

theorem combBank_ap (cfg : Params) (c : Chan) (off : Int) (f d x : Word) (ch : ChannelState) :
    (combBank cfg c off f d x ch).2.ap = ch.ap := rfl

/-- R352: the all-passes leave the combs and their accumulators. -/
theorem apCascade_combs (cfg : Params) (c : Chan) (p : Word × ChannelState) :
    (apCascade cfg c p).2.comb = p.2.comb ∧ (apCascade cfg c p).2.cds = p.2.cds := ⟨rfl, rfl⟩

/-- R355, R349: in a channel's reverb each comb line takes its own step. -/
theorem reverbChannel_comb (cfg : Params) (S : Snapshot) (off : Int) (c : Chan) (x : Word)
    (ch : ChannelState) (i : Fin 8) :
    (reverbChannel cfg S off c x ch).2.comb[i] = (combAt cfg c off (feedbackOf S) (dampingOf S) x ch i).line ∧
      (reverbChannel cfg S off c x ch).2.cds[i] = (combAt cfg c off (feedbackOf S) (dampingOf S) x ch i).damped := by
  obtain ⟨hcomb, hcds⟩ := apCascade_combs cfg c (combBank cfg c off (feedbackOf S) (dampingOf S) x ch)
  rw [reverbChannel, hcomb, hcds]
  exact ⟨combBank_line .., combBank_cds ..⟩

/-! ## The reverb in a frame (R355) -/

/-- R158: the chain before the reverb leaves every delay line. -/
theorem channelDry_lines (cfg : Params) (s : State) (c : Chan) (ch : ChannelState) :
    (channelDry cfg s c ch).2.comb = ch.comb ∧ (channelDry cfg s c ch).2.cds = ch.cds ∧
      (channelDry cfg s c ch).2.ap = ch.ap := by
  obtain ⟨p, q, d, hch⟩ := channelFrame_channel cfg s.fs s.dampA (snapshot s.params) c
    (channelFreq (modulate cfg s.fs (snapshot s.params) s.phWob s.phSwp) c) ch
  rw [channelDry, hch]
  exact ⟨rfl, rfl, rfl⟩

/-- The output register of a channel (R39). -/
def outputOf (s : State) (c : Chan) : Word :=
  match c with
  | .left => s.outL
  | .right => s.outR

/-- R312: the output stage of a channel. -/
theorem outputOf_frame (cfg : Params) (s : State) (c : Chan) :
    outputOf (frame cfg s) c = limit (gain (snapshot s.params) (channelOut cfg s c (channel s c)).1) := by
  rw [frame_eq]
  cases c <;> rfl

/-- R350: the input of the all-passes in a frame: what the combs read at their new lengths, summed. -/
theorem combBank_channelDry (cfg : Params) (s : State) (c : Chan) (off : Int) (f d x : Word) :
    (combBank cfg c off f d x (channelDry cfg s c (channel s c)).2).1 =
      combSum cfg c off (channel s c) := by
  obtain ⟨hcomb, -, -⟩ := channelDry_lines cfg s c (channel s c)
  rw [combBank_fst, combSum, hcomb, combSum]

section
variable {s : State} (hon : bypassed (snapshot s.params).rvAmt = false)
include hon

theorem frame_phRev_of_on (cfg : Params) : (frame cfg s).phRev = advancePhase s.fs reverbRate s.phRev := by
  rw [frame_eq]
  exact if_neg (by simp [hon])

/-- R355, R311: with the reverb on, a channel's frame ends with the reverb of what the damping stage stored. -/
theorem channelOut_of_on (cfg : Params) (c : Chan) (ch : ChannelState) :
    channelOut cfg s c ch =
      reverbChannel cfg (snapshot s.params) (modOffset cfg (snapshot s.params) s.phRev) c
        (channelDry cfg s c ch).2.dmp (channelDry cfg s c ch).2 :=
  if_neg (by simp [hon])

/-- R349: in a frame each comb line takes its own step, on the output of the damping stage. -/
theorem frame_comb (cfg : Params) (c : Chan) (i : Fin 8) :
    let S := snapshot s.params
    let r := combStep (combLength cfg c i (modOffset cfg S s.phRev)) (feedbackOf S) (dampingOf S)
      (channel (frame cfg s) c).dmp (channel s c).comb[i] (channel s c).cds[i]
    (channel (frame cfg s) c).comb[i] = r.line ∧ (channel (frame cfg s) c).cds[i] = r.damped := by
  intro S r
  obtain ⟨hcomb, hcds, -⟩ := channelDry_lines cfg s c (channel s c)
  obtain ⟨-, -, hdmp⟩ := frame_keeps_chain cfg s c
  have hr := reverbChannel_comb cfg S (modOffset cfg S s.phRev) c (channelDry cfg s c (channel s c)).2.dmp
    (channelDry cfg s c (channel s c)).2 i
  rwa [← channelOut_of_on hon, ← channel_frame, combAt, hcomb, hcds, ← hdmp] at hr

/-- R351, R352: in a frame each all-pass line takes its own step, on the output of the stage before. -/
theorem frame_ap (cfg : Params) (c : Chan) (j : Fin 4) :
    (channel (frame cfg s) c).ap[j] =
      (apStep (apLength cfg c j)
        (apInput (channel s c).ap (combSum cfg c (modOffset cfg (snapshot s.params) s.phRev) (channel s c)) j)
        (channel s c).ap[j]).2 := by
  obtain ⟨-, -, hap⟩ := channelDry_lines cfg s c (channel s c)
  rw [channel_frame, channelOut_of_on hon, reverbChannel, apCascade_line, combBank_channelDry, combBank_ap, hap]

/-- R355, R356, R312: in a frame the output stage takes the mix of the damping stage's output with the last
all-pass's. -/
theorem frame_output_of_on (cfg : Params) (c : Chan) :
    let S := snapshot s.params
    let x := combSum cfg c (modOffset cfg S s.phRev) (channel s c)
    outputOf (frame cfg s) c =
      limit (gain S (mix (channel (frame cfg s) c).dmp
        (apPassed (channel s c).ap[3] (apInput (channel s c).ap x 3)) S.rvAmt)) := by
  intro S x
  obtain ⟨-, -, hap⟩ := channelDry_lines cfg s c (channel s c)
  obtain ⟨-, -, hdmp⟩ := frame_keeps_chain cfg s c
  rw [outputOf_frame, channelOut_of_on hon, reverbChannel, apCascade_fst, combBank_channelDry, combBank_ap, hap,
    hdmp]

end

end Sys2Proof.Machine

namespace Sys2Proof

/-! ## The statements -/

open Sys2Proof.Machine Sys2Proof.F32

/-- Settles O53, by induction on the list from its last write (`memRead_writeAll`). -/
theorem delayLineDelaysByItsLength : Obligations.DelayLineDelaysByItsLength := by
  intro cap d len0 l hd hdc
  exact memRead_writeAll len0 l hd hdc

/-- Settles O52: the clamp gives a natural number, and the signs of line and channel multiply (`offsetSign_eq`). -/
theorem combLengthFormula : Obligations.CombLengthFormula := by
  intro c i off
  have htuning : implementation.combTuning i = Config.combTuningLess1 i + 1 := rfl
  rw [combLength, offsetSign_eq, spreadOf_eq_ite, htuning, Config.combLenMin, Config.combLenMax]
  push_cast
  omega

/-- Settles O51: each product is rounded within its range (`modProduct_inRange`), and so is the integral part. -/
theorem combOffsetIsAtMost15 : Obligations.CombOffsetIsAtMost15 := by
  intro cfg S ph hsin hamt
  rw [show 0xBF800000#32 = neg (lit 1 1) by decide, ← lit_1] at hsin
  rw [← lit_1] at hamt
  exact toInt_floor_of_fifteen (modProduct_inRange (hsin _) hamt)

/-- Settles O39: a bypassed reverb is the identity (`reverb_bypassed`), the chain before it leaves the delay lines
(`channelDry_lines`), and a muted frame leaves the channels. -/
theorem bypassedReverbIsIdentityAndFrozen : Obligations.BypassedReverbIsIdentityAndFrozen := by
  refine ⟨fun fs S ul ur ph l r h => reverb_bypassed ((bypassed_eq _).trans h), fun s hs h => ?_⟩
  rw [← bypassed_eq] at h
  cases hm : s.muted with
  | true =>
    exact ⟨mutedFrame s, by rw [exec_process, if_pos hs, if_pos hm], rfl, nofun, fun c => by
      cases c <;> exact ⟨rfl, rfl, rfl⟩⟩
  | false =>
    refine ⟨_, execProcess_unmuted hs hm, frame_phRev_of_bypassed h _, fun _ => frame_outputs_of_bypassed h _,
      fun c => ?_⟩
    rw [channel_frame, channelOut_of_bypassed h]
    exact channelDry_lines ..

/-- Settles O40: each line takes the step of `frame_comb`, which stores one sample, at the old write index
(`combStep_buf`). -/
theorem combLinesStepOnce : Obligations.CombLinesStepOnce := by
  intro s hs hm hon hstorage
  rw [← bypassed_eq] at hon
  refine ⟨_, execProcess_unmuted hs hm, frame_phRev_of_on hon _, fun c i => ?_⟩
  obtain ⟨hcombs, -⟩ := hstorage c
  obtain ⟨hline, hcds⟩ := frame_comb hon implementation c i
  dsimp only
  rw [hline, hcds]
  exact ⟨rfl, rfl, rfl, combStep_buf _ _ _ _ _ (hcombs i)⟩

/-- Settles O41: each line takes the step of `frame_ap`, which stores one sample, at the old write index
(`apStep_buf`), and the output is that of `frame_output_of_on`. -/
theorem allPassLinesStepOnce : Obligations.AllPassLinesStepOnce := by
  intro s hs hm hon hstorage
  rw [← bypassed_eq] at hon
  refine ⟨_, execProcess_unmuted hs hm, fun c => ⟨fun j => ?_, ?_⟩⟩
  · obtain ⟨-, haps⟩ := hstorage c
    dsimp only
    rw [frame_ap hon, combSum_eq]
    obtain ⟨hsame, hother⟩ := apStep_buf _ _ (haps j)
    refine ⟨?_, rfl, hsame.trans ?_, hother⟩
    · cases c <;> rfl
    · fin_cases j <;> rfl
  · refine Eq.trans ?_ ((frame_output_of_on hon implementation c).trans ?_)
    · cases c <;> rfl
    · rw [combSum_eq]
      rfl

end Sys2Proof
end

section
/-! PROOFS. The exceptions (60_exceptions R400 to R415): the statements O12, O13 and O14.

The ideas: the reason `commandFault` gives for a word settles what `command` does with it, a fault for a reason
(`command_of_commandFault_eq_some`) and one command's effect for none (`command_of_commandFault_eq_none`); and no effect
writes `err` or the bus, but that of an INIT that faults (`effect_err_hostBus`). -/

namespace Sys2Proof.Machine

/-! ## Before INIT -/

/-- R403: the INIT guard stands before every command but NOP and INIT. -/
theorem exec_early {i : Instr} {s : State} (hs : s.initDone = false) (hnop : i ≠ .nop) (hinit : i ≠ .init) :
    exec i s = .next (raiseFault .notInitialized s) := by
  simp [exec_next, hs, hnop, hinit]

/-! ## What an effect leaves of STATUS.ERR and the bus -/

/-- R405: a command that does not fault leaves STATUS.ERR, and the accesses that arrive after it. -/
theorem effect_err_hostBus {i : Instr} {s : State} (hi : i = .init → validRate s.data = true) :
    (effect i s).err = s.err ∧ (effect i s).hostBus = s.hostBus := by
  cases i with
  | init => simp [effect, initFromData, hi rfl]
  | process => rcases processFrame_cases implementation s with hp | hp <;> simp [effect, hp]
  | updateControls delta mute =>
    rcases controlTick_cases implementation delta mute s with ⟨-, -, m, hc⟩ | ⟨p, l, r, m, hc⟩ <;> simp [effect, hc]
  | randomize => simp [effect]
  | reset => simp [effect, resetController]
  | _ => exact ⟨rfl, rfl⟩

/-! ## The reason of a word (R404) -/

theorem commandFault_illegal {w : Word} {e : IllegalWord} (h : decode w = .error e) (s : State) :
    commandFault w s = some .illegalCommand := by
  simp [commandFault, h]

theorem commandFault_ok {w : Word} {i : Instr} (h : decode w = .ok i) (s : State) :
    commandFault w s = if i = .nop then none
      else if i = .init then (if validRate s.data then none else some .badSampleRate)
      else if s.initDone then none else some .notInitialized := by
  simp [commandFault, h]

/-- A word that decodes has no reason for NOP, for INIT at a valid rate, and for every other command after INIT. -/
theorem commandFault_eq_none_iff {w : Word} {i : Instr} (h : decode w = .ok i) (s : State) :
    commandFault w s = none ↔
      i = .nop ∨ (i = .init ∧ validRate s.data = true) ∨ (i ≠ .init ∧ s.initDone = true) := by
  rw [commandFault_ok h]
  by_cases hnop : i = .nop
  · simp [hnop]
  · by_cases hinit : i = .init <;> simp [hnop, hinit]

/-- R405: a word with a reason sets STATUS.ERR and does nothing else. -/
theorem command_of_commandFault_eq_some {w : Word} {s : State} {r : FaultReason} (h : commandFault w s = some r) :
    command w s = .next (raiseFault r s) := by
  cases hd : decode w with
  | error e =>
    rw [commandFault_illegal hd] at h
    cases h
    exact command_illegal hd s
  | ok i =>
    rw [commandFault_ok hd] at h
    rw [command_ok hd]
    split_ifs at h with hnop hinit hrate hdone <;> cases h
    · rw [hinit, exec_init_of_not_validRate (by simpa using hrate), raiseFault]
    · exact exec_early (by simpa using hdone) hnop hinit

/-- A word without a reason has the effect of the command it decodes to; an INIT among them has a valid rate. -/
theorem command_of_commandFault_eq_none {w : Word} {s : State} (h : commandFault w s = none) :
    ∃ i, command w s = .next (effect i s) ∧ (i = .init → validRate s.data = true) := by
  cases hd : decode w with
  | error e =>
    rw [commandFault_illegal hd] at h
    cases h
  | ok i =>
    rw [commandFault_eq_none_iff hd] at h
    refine ⟨i, ?_, by rintro rfl; simpa using h⟩
    rw [command_ok hd, exec_next, if_pos (by tauto)]

/-! ## What is served leaves the bus -/

theorem command_next_hostBus (w : Word) (s : State) : ∃ t, command w s = .next t ∧ t.hostBus = s.hostBus := by
  cases h : commandFault w s with
  | some r => exact ⟨_, command_of_commandFault_eq_some h, rfl⟩
  | none =>
    obtain ⟨i, hc, hi⟩ := command_of_commandFault_eq_none h
    exact ⟨_, hc, (effect_err_hostBus hi).2⟩

theorem writeRegister_next_hostBus (o : Nat) (w : Word) (s : State) :
    ∃ t, writeRegister o w s = .next t ∧ t.hostBus = s.hostBus := by
  unfold writeRegister
  split
  · exact command_next_hostBus w s
  · exact ⟨_, rfl, rfl⟩
  · exact ⟨_, rfl, rfl⟩

end Sys2Proof.Machine

namespace Sys2Proof

/-! ## The statements -/

open Sys2Proof.Machine

/-- Settles O14: the reasons are those of `commandFault_ok` and `commandFault_eq_none_iff`; what a word does follows
from its reason alone, and the effect of a command that does not fault leaves STATUS.ERR (`effect_err_hostBus`). -/
theorem faultPriorityAndPrecision : Obligations.FaultPriorityAndPrecision := by
  intro w s
  refine ⟨fun e hd => commandFault_illegal hd s, fun i hd hnop hinit hs => ?_, fun hd hrate => ?_,
    fun i hd => (commandFault_eq_none_iff hd s).2, fun r => command_of_commandFault_eq_some, fun h => ?_⟩
  · simp [commandFault_ok hd, hnop, hinit, hs]
  · simp [commandFault_ok hd, hrate]
  · obtain ⟨i, hc, hi⟩ := command_of_commandFault_eq_none h
    exact ⟨_, hc, (effect_err_hostBus hi).1⟩

/-- Settles O12: an aligned word access is served (`checkAccess_of_aligned`), and no register's write stops the CORE
(`writeRegister_next_hostBus`). -/
theorem alignedAccessIsAlwaysServed : Obligations.AlignedAccessIsAlwaysServed := by
  refine ⟨fun s rest o w ha ho hb => ?_, fun s hb => by simp [step, serveNext, hb]⟩
  rcases hb with hb | hb <;> rw [step_of_hostBus hb, serve, checkAccess_of_aligned ho ha]
  · exact ⟨_, rfl, rfl⟩
  · exact writeRegister_next_hostBus o w { s with hostBus := rest }

/-- Settles O13: the guard's fault writes `err` alone. -/
theorem commandBeforeInitFaults : Obligations.CommandBeforeInitFaults :=
  fun _ _ => exec_early

end Sys2Proof
end
